-- ==== Sys2Proof/Word.lean ====
section
/-!
DEFINITION. The two widths of the engine (00_scope.md R7): registers, memory bytes, port numbers and the
interrupt mask are 8 bits; the program counter, the stack pointer, pairs and addresses are 16 bits. Addition and
subtraction on both wrap, as R7 and R154 say. The byte-order helpers are in Decode.lean.
-/

namespace Sys2Proof

/-- An 8-bit value (00_scope.md R7). -/
abbrev Byte := BitVec 8

/-- A 16-bit value (00_scope.md R7). -/
abbrev Word := BitVec 16

end Sys2Proof
end

