-- ==== Sys2Proof/Config.lean ====
section
/-!
DEFINITION. What the spec leaves to a parameter (00_scope.md R8) and the free values. The parameters are a record of
plain data; `State.params` carries one, no step changes it, and a statement over every state is therefore a statement
over every parameter value (notes/assumptions/1.md). IO_IN is a free value: an opaque function with no body.
-/

namespace Sys2Proof

/-- CATALOG_EXTENT (R8, 92_eei_decisions.md D1): which opcode bytes are populated. -/
inductive CatalogExtent where
  | full
  | docNamed
deriving DecidableEq, Repr

/-- SBB_CARRY_MODE (R8, D5): the carry SBB and SBI leave. -/
inductive SbbCarryMode where
  | computed
  | cleared
deriving DecidableEq, Repr

/-- DAA_MODE (R8, D7). -/
inductive DaaMode where
  | standard
  | stub
deriving DecidableEq, Repr

/-- IM_MODEL (R8, D11): what EI, DI, SIM and RIM do to the interrupt mask. -/
inductive ImModel where
  | literal
  | standard8085
deriving DecidableEq, Repr

/-- PSW_LAYOUT (R8, D8): the bit each flag has in the flag byte of PUSH PSW and POP PSW, and the byte that supplies
the bits no flag has. -/
structure PswLayout where
  s : Fin 8
  z : Fin 8
  ac : Fin 8
  p : Fin 8
  c : Fin 8
  unused : Byte
deriving DecidableEq, Repr

/-- The default layout of R8 and 10_state.md R33: S 7, Z 6, AC 4, P 2, C 0, the other bits 0. -/
def PswLayout.default : PswLayout :=
  { s := 7, z := 6, ac := 4, p := 2, c := 0, unused := 0x00#8 }

/-- The parameters of R8 that a step reads. RESET_STATE is an argument of `State.construct`. -/
structure Params where
  memSize : Nat
  catalogExtent : CatalogExtent
  sbbCarryMode : SbbCarryMode
  daaMode : DaaMode
  pswLayout : PswLayout
  imModel : ImModel
deriving DecidableEq, Repr

/-- The default column of R8. -/
def Params.default : Params :=
  { memSize := 65536
    catalogExtent := .full
    sbbCarryMode := .computed
    daaMode := .standard
    pswLayout := PswLayout.default
    imModel := .literal }

/-- The effects that an instruction can have had before its failing memory access (60_exceptions.md R302): the writes of
its action, by the part of the state, and, before a failing operand fetch, the move of pc by each byte fetch. -/
inductive PartialEffect where
  | registers
  | stackPointer
  | memory
  | opcodeFetch
  | operandFetch
deriving DecidableEq, Repr

/-- IO_IN (R8, R12, D12): the byte the environment supplies to the `n`-th IN, at `port`. A free value: nothing
constrains it. notes/assumptions/9.md. -/
opaque Config.ioIn (n : Nat) (port : Byte) : Byte

/-- Whether an effect that came before a MemoryOutOfRange failure took effect: R302 says it "may or may not". A free
value. notes/assumptions/12.md. -/
opaque Config.partialKept (n : Nat) (part : PartialEffect) : Bool

end Sys2Proof
end

