-- ==== Sys2Proof/Syntax.lean ====
section
/-!
DEFINITION. The syntax of the engine: the operand names of 10_state.md R22 to R26 and 30_encoding.md R80, the ten
operand kinds of R15 and R70, the instruction type with one constructor for each row of spec/opcode_table.json, and
the families that group those rows the way the catalog's descriptors do (30_encoding.md R74 to R81).
-/

namespace Sys2Proof

/-- The seven general registers (10_state.md R21). -/
inductive Reg where
  | b | c | d | e | h | l | a
deriving DecidableEq, Repr

/-- The encoding offset of a register (10_state.md R22); 6 is no register's. -/
def Reg.offset : Reg → Nat
  | .b => 0 | .c => 1 | .d => 2 | .e => 3 | .h => 4 | .l => 5 | .a => 7

/-- The operand of a RegisterOrMemory row (10_state.md R23, R24): a register, or M, the byte at H:L. -/
inductive Operand8 where
  | reg (r : Reg)
  | m
deriving DecidableEq, Repr

/-- The offset of R22, with 6 for M. -/
def Operand8.offset : Operand8 → Nat
  | .reg r => r.offset
  | .m => 6

/-- A pair of general registers, named by its high one (10_state.md R25). -/
inductive Pair where
  | b | d | h
deriving DecidableEq, Repr

/-- The operand of a RegisterPairOrSP row (R25). -/
inductive PairSP where
  | rp (p : Pair)
  | sp
deriving DecidableEq, Repr

/-- The operand of a RegisterPairOrPSW row (R25, R26). -/
inductive PairPSW where
  | rp (p : Pair)
  | psw
deriving DecidableEq, Repr

/-- The operand of a RegisterPairBD row (R25). -/
inductive PairBD where
  | b | d
deriving DecidableEq, Repr

def PairBD.toPair : PairBD → Pair
  | .b => .b
  | .d => .d

/-- The 2-bit pair codes of R25. -/
def Pair.code : Pair → Nat
  | .b => 0 | .d => 1 | .h => 2

def PairSP.code : PairSP → Nat
  | .rp p => p.code
  | .sp => 3

def PairPSW.code : PairPSW → Nat
  | .rp p => p.code
  | .psw => 3

def PairBD.code : PairBD → Nat
  | .b => 0 | .d => 1

/-- The eight conditions of 30_encoding.md R80. -/
inductive Cond where
  | nz | z | nc | c | po | pe | p | m
deriving DecidableEq, Repr

/-- The condition code ccc of R80. -/
def Cond.code : Cond → Nat
  | .nz => 0 | .z => 1 | .nc => 2 | .c => 3 | .po => 4 | .pe => 5 | .p => 6 | .m => 7

/-- The five flags by name (10_state.md R30). -/
inductive FlagName where
  | s | z | ac | p | c
deriving DecidableEq, Repr

/-- The closed set of operand kinds (00_scope.md R15). -/
inductive OperandKind where
  | none | data8 | data16 | labelAddress16 | register | registerOrMemory
  | registerPairOrSP | registerPairOrPSW | registerPairBD | index3Bit
deriving DecidableEq, Repr

/-- How many bytes follow the opcode byte (30_encoding.md R70). -/
def OperandKind.operandBytes : OperandKind → Nat
  | .none => 0 | .data8 => 1 | .data16 => 2 | .labelAddress16 => 2 | .register => 0 | .registerOrMemory => 0
  | .registerPairOrSP => 0 | .registerPairOrPSW => 0 | .registerPairBD => 0 | .index3Bit => 0

/-- The 246 instructions, one for each row of spec/opcode_table.json: first the rows with operand bytes, then the
others, each in the table's order. A register, pair, condition or restart index that the
opcode byte selects is part of the constructor; an immediate byte, port or 16-bit operand is its argument. -/
inductive Instr where
  | lxiB (d16 : Word)
  | mviB (d8 : Byte)
  | mviC (d8 : Byte)
  | lxiD (d16 : Word)
  | mviD (d8 : Byte)
  | mviE (d8 : Byte)
  | lxiH (d16 : Word)
  | shld (a16 : Word)
  | mviH (d8 : Byte)
  | lhld (a16 : Word)
  | mviL (d8 : Byte)
  | lxiSP (d16 : Word)
  | sta (a16 : Word)
  | mviM (d8 : Byte)
  | lda (a16 : Word)
  | mviA (d8 : Byte)
  | jnz (a16 : Word)
  | jmp (a16 : Word)
  | cnz (a16 : Word)
  | adi (d8 : Byte)
  | jz (a16 : Word)
  | cz (a16 : Word)
  | call (a16 : Word)
  | aci (d8 : Byte)
  | jnc (a16 : Word)
  | outPort (d8 : Byte)
  | cnc (a16 : Word)
  | sui (d8 : Byte)
  | jc (a16 : Word)
  | inPort (d8 : Byte)
  | cc (a16 : Word)
  | sbi (d8 : Byte)
  | jpo (a16 : Word)
  | cpo (a16 : Word)
  | ani (d8 : Byte)
  | jpe (a16 : Word)
  | cpe (a16 : Word)
  | xri (d8 : Byte)
  | jp (a16 : Word)
  | cp (a16 : Word)
  | ori (d8 : Byte)
  | jm (a16 : Word)
  | cm (a16 : Word)
  | cpi (d8 : Byte)
  | nop
  | staxB
  | inxB
  | inrB
  | dcrB
  | rlc
  | dadB
  | ldaxB
  | dcxB
  | inrC
  | dcrC
  | rrc
  | staxD
  | inxD
  | inrD
  | dcrD
  | ral
  | dadD
  | ldaxD
  | dcxD
  | inrE
  | dcrE
  | rar
  | rim
  | inxH
  | inrH
  | dcrH
  | daa
  | dadH
  | dcxH
  | inrL
  | dcrL
  | cma
  | sim
  | inxSP
  | inrM
  | dcrM
  | stc
  | dadSP
  | dcxSP
  | inrA
  | dcrA
  | cmc
  | movBB
  | movBC
  | movBD
  | movBE
  | movBH
  | movBL
  | movBM
  | movBA
  | movCB
  | movCC
  | movCD
  | movCE
  | movCH
  | movCL
  | movCM
  | movCA
  | movDB
  | movDC
  | movDD
  | movDE
  | movDH
  | movDL
  | movDM
  | movDA
  | movEB
  | movEC
  | movED
  | movEE
  | movEH
  | movEL
  | movEM
  | movEA
  | movHB
  | movHC
  | movHD
  | movHE
  | movHH
  | movHL
  | movHM
  | movHA
  | movLB
  | movLC
  | movLD
  | movLE
  | movLH
  | movLL
  | movLM
  | movLA
  | movMB
  | movMC
  | movMD
  | movME
  | movMH
  | movML
  | hlt
  | movMA
  | movAB
  | movAC
  | movAD
  | movAE
  | movAH
  | movAL
  | movAM
  | movAA
  | addB
  | addC
  | addD
  | addE
  | addH
  | addL
  | addM
  | addA
  | adcB
  | adcC
  | adcD
  | adcE
  | adcH
  | adcL
  | adcM
  | adcA
  | subB
  | subC
  | subD
  | subE
  | subH
  | subL
  | subM
  | subA
  | sbbB
  | sbbC
  | sbbD
  | sbbE
  | sbbH
  | sbbL
  | sbbM
  | sbbA
  | anaB
  | anaC
  | anaD
  | anaE
  | anaH
  | anaL
  | anaM
  | anaA
  | xraB
  | xraC
  | xraD
  | xraE
  | xraH
  | xraL
  | xraM
  | xraA
  | oraB
  | oraC
  | oraD
  | oraE
  | oraH
  | oraL
  | oraM
  | oraA
  | cmpB
  | cmpC
  | cmpD
  | cmpE
  | cmpH
  | cmpL
  | cmpM
  | cmpA
  | rnz
  | popB
  | pushB
  | rst0
  | rz
  | ret
  | rst1
  | rnc
  | popD
  | pushD
  | rst2
  | rc
  | rst3
  | rpo
  | popH
  | xthl
  | pushH
  | rst4
  | rpe
  | pchl
  | xchg
  | rst5
  | rp
  | popPSW
  | di
  | pushPSW
  | rst6
  | rm
  | sphl
  | ei
  | rst7
deriving DecidableEq, Repr

/-! The families: each names the rows one descriptor key (or one set of keys) of 30_encoding.md R81 gives. -/

/-- MOV d,s between registers (R100). -/
def Instr.movRegReg : Reg → Reg → Instr
  | .b, .b => .movBB
  | .b, .c => .movBC
  | .b, .d => .movBD
  | .b, .e => .movBE
  | .b, .h => .movBH
  | .b, .l => .movBL
  | .b, .a => .movBA
  | .c, .b => .movCB
  | .c, .c => .movCC
  | .c, .d => .movCD
  | .c, .e => .movCE
  | .c, .h => .movCH
  | .c, .l => .movCL
  | .c, .a => .movCA
  | .d, .b => .movDB
  | .d, .c => .movDC
  | .d, .d => .movDD
  | .d, .e => .movDE
  | .d, .h => .movDH
  | .d, .l => .movDL
  | .d, .a => .movDA
  | .e, .b => .movEB
  | .e, .c => .movEC
  | .e, .d => .movED
  | .e, .e => .movEE
  | .e, .h => .movEH
  | .e, .l => .movEL
  | .e, .a => .movEA
  | .h, .b => .movHB
  | .h, .c => .movHC
  | .h, .d => .movHD
  | .h, .e => .movHE
  | .h, .h => .movHH
  | .h, .l => .movHL
  | .h, .a => .movHA
  | .l, .b => .movLB
  | .l, .c => .movLC
  | .l, .d => .movLD
  | .l, .e => .movLE
  | .l, .h => .movLH
  | .l, .l => .movLL
  | .l, .a => .movLA
  | .a, .b => .movAB
  | .a, .c => .movAC
  | .a, .d => .movAD
  | .a, .e => .movAE
  | .a, .h => .movAH
  | .a, .l => .movAL
  | .a, .a => .movAA

/-- MOV d,M (R101). -/
def Instr.movRegMem : Reg → Instr
  | .b => .movBM
  | .c => .movCM
  | .d => .movDM
  | .e => .movEM
  | .h => .movHM
  | .l => .movLM
  | .a => .movAM

/-- MOV M,s (R102). -/
def Instr.movMemReg : Reg → Instr
  | .b => .movMB
  | .c => .movMC
  | .d => .movMD
  | .e => .movME
  | .h => .movMH
  | .l => .movML
  | .a => .movMA

/-- MVI d,d8 and MVI M,d8 (R103, R104). -/
def Instr.mvi : Operand8 → Byte → Instr
  | .reg .b => .mviB
  | .reg .c => .mviC
  | .reg .d => .mviD
  | .reg .e => .mviE
  | .reg .h => .mviH
  | .reg .l => .mviL
  | .reg .a => .mviA
  | .m => .mviM

/-- LXI rp,d16 (R105). -/
def Instr.lxi : PairSP → Word → Instr
  | .rp .b => .lxiB
  | .rp .d => .lxiD
  | .rp .h => .lxiH
  | .sp => .lxiSP

/-- LDAX rp (R110). -/
def Instr.ldax : PairBD → Instr
  | .b => .ldaxB
  | .d => .ldaxD

/-- STAX rp (R111). -/
def Instr.stax : PairBD → Instr
  | .b => .staxB
  | .d => .staxD

/-- INX rp (R150). -/
def Instr.inx : PairSP → Instr
  | .rp .b => .inxB
  | .rp .d => .inxD
  | .rp .h => .inxH
  | .sp => .inxSP

/-- DCX rp (R151). -/
def Instr.dcx : PairSP → Instr
  | .rp .b => .dcxB
  | .rp .d => .dcxD
  | .rp .h => .dcxH
  | .sp => .dcxSP

/-- DAD rp (R152). -/
def Instr.dad : PairSP → Instr
  | .rp .b => .dadB
  | .rp .d => .dadD
  | .rp .h => .dadH
  | .sp => .dadSP

/-- PUSH rp and PUSH PSW (R220, R221). -/
def Instr.push : PairPSW → Instr
  | .rp .b => .pushB
  | .rp .d => .pushD
  | .rp .h => .pushH
  | .psw => .pushPSW

/-- POP rp and POP PSW (R222, R223). -/
def Instr.pop : PairPSW → Instr
  | .rp .b => .popB
  | .rp .d => .popD
  | .rp .h => .popH
  | .psw => .popPSW

/-- ADD s (R140). -/
def Instr.add : Operand8 → Instr
  | .reg .b => .addB
  | .reg .c => .addC
  | .reg .d => .addD
  | .reg .e => .addE
  | .reg .h => .addH
  | .reg .l => .addL
  | .reg .a => .addA
  | .m => .addM

/-- ADC s (R142). -/
def Instr.adc : Operand8 → Instr
  | .reg .b => .adcB
  | .reg .c => .adcC
  | .reg .d => .adcD
  | .reg .e => .adcE
  | .reg .h => .adcH
  | .reg .l => .adcL
  | .reg .a => .adcA
  | .m => .adcM

/-- SUB s (R144). -/
def Instr.sub : Operand8 → Instr
  | .reg .b => .subB
  | .reg .c => .subC
  | .reg .d => .subD
  | .reg .e => .subE
  | .reg .h => .subH
  | .reg .l => .subL
  | .reg .a => .subA
  | .m => .subM

/-- SBB s (R146). -/
def Instr.sbb : Operand8 → Instr
  | .reg .b => .sbbB
  | .reg .c => .sbbC
  | .reg .d => .sbbD
  | .reg .e => .sbbE
  | .reg .h => .sbbH
  | .reg .l => .sbbL
  | .reg .a => .sbbA
  | .m => .sbbM

/-- INR s (R148). -/
def Instr.inr : Operand8 → Instr
  | .reg .b => .inrB
  | .reg .c => .inrC
  | .reg .d => .inrD
  | .reg .e => .inrE
  | .reg .h => .inrH
  | .reg .l => .inrL
  | .reg .a => .inrA
  | .m => .inrM

/-- DCR s (R149). -/
def Instr.dcr : Operand8 → Instr
  | .reg .b => .dcrB
  | .reg .c => .dcrC
  | .reg .d => .dcrD
  | .reg .e => .dcrE
  | .reg .h => .dcrH
  | .reg .l => .dcrL
  | .reg .a => .dcrA
  | .m => .dcrM

/-- ANA s (R180). -/
def Instr.ana : Operand8 → Instr
  | .reg .b => .anaB
  | .reg .c => .anaC
  | .reg .d => .anaD
  | .reg .e => .anaE
  | .reg .h => .anaH
  | .reg .l => .anaL
  | .reg .a => .anaA
  | .m => .anaM

/-- XRA s (R182). -/
def Instr.xra : Operand8 → Instr
  | .reg .b => .xraB
  | .reg .c => .xraC
  | .reg .d => .xraD
  | .reg .e => .xraE
  | .reg .h => .xraH
  | .reg .l => .xraL
  | .reg .a => .xraA
  | .m => .xraM

/-- ORA s (R184). -/
def Instr.ora : Operand8 → Instr
  | .reg .b => .oraB
  | .reg .c => .oraC
  | .reg .d => .oraD
  | .reg .e => .oraE
  | .reg .h => .oraH
  | .reg .l => .oraL
  | .reg .a => .oraA
  | .m => .oraM

/-- CMP s (R186). -/
def Instr.cmp : Operand8 → Instr
  | .reg .b => .cmpB
  | .reg .c => .cmpC
  | .reg .d => .cmpD
  | .reg .e => .cmpE
  | .reg .h => .cmpH
  | .reg .l => .cmpL
  | .reg .a => .cmpA
  | .m => .cmpM

/-- Jcc (R241). -/
def Instr.jcc : Cond → Word → Instr
  | .nz => .jnz
  | .z => .jz
  | .nc => .jnc
  | .c => .jc
  | .po => .jpo
  | .pe => .jpe
  | .p => .jp
  | .m => .jm

/-- Ccc (R243). -/
def Instr.ccc : Cond → Word → Instr
  | .nz => .cnz
  | .z => .cz
  | .nc => .cnc
  | .c => .cc
  | .po => .cpo
  | .pe => .cpe
  | .p => .cp
  | .m => .cm

/-- Rcc (R245). -/
def Instr.rcc : Cond → Instr
  | .nz => .rnz
  | .z => .rz
  | .nc => .rnc
  | .c => .rc
  | .po => .rpo
  | .pe => .rpe
  | .p => .rp
  | .m => .rm

/-- RST n (R246). -/
def Instr.rst : Fin 8 → Instr
  | 0 => .rst0
  | 1 => .rst1
  | 2 => .rst2
  | 3 => .rst3
  | 4 => .rst4
  | 5 => .rst5
  | 6 => .rst6
  | 7 => .rst7

end Sys2Proof
end

