-- ==== Sys2Proof/WellFormed.lean ====
section
/-!
DEFINITION. The checks on syntax and parameters. Every operand value is legal (30_encoding.md R86) and the operand
types have the operands' widths, so the one check on an instruction is that CATALOG_EXTENT populates its row (R81,
R86). The checks on parameters are the range of MEM_SIZE (00_scope.md R8) and a flag byte that gives each flag its own
bit (43_stack.md R223).
-/

namespace Sys2Proof

/-- CMA, STC and CMC are the rows that `docNamed` leaves out (30_encoding.md R86, 42_logical_rotate.md R192 to R194). -/
def Instr.docNamed (i : Instr) : Bool :=
  i != .cma && i != .stc && i != .cmc

/-- The instruction's row is populated under `ext`. -/
def Instr.wellFormed (ext : CatalogExtent) (i : Instr) : Bool :=
  match ext with
  | .full => true
  | .docNamed => i.docNamed

/-- Each flag has its own bit. -/
def PswLayout.wellFormed (l : PswLayout) : Bool :=
  decide ([l.s, l.z, l.ac, l.p, l.c].Nodup)

/-- MEM_SIZE is 1 to 65536 (R8). -/
def Params.memSizeLegal (p : Params) : Bool :=
  decide (1 ≤ p.memSize) && decide (p.memSize ≤ 65536)

def Params.wellFormed (p : Params) : Bool :=
  p.memSizeLegal && p.pswLayout.wellFormed

end Sys2Proof
end

