-- ==== Sys2Proof/Decode.lean ====
section
/-!
DEFINITION. The byte-order helpers, the byte-keyed catalog (30_encoding.md R70 to R82), the decoder (R83, R84), which
is total and rejects by name, and the encoder. The decoder reads the opcode map of R82; the encoder is written from
the opcode bytes of R81; the descriptor list of R81 with the expansions of R74 to R79 is the third reading of the same
table, and Laws/Catalog.lean says what connects them.
-/

namespace Sys2Proof

/-- `a:b` of 00_scope.md R9: the 16-bit value `a*256 + b`. -/
def joinBytes (hi lo : Byte) : Word := BitVec.ofNat 16 (hi.toNat * 256 + lo.toNat)

/-- `hi(w)` of R9: bits 15 to 8. -/
def hiByte (w : Word) : Byte := BitVec.ofNat 8 (w.toNat / 256)

/-- `lo(w)` of R9: bits 7 to 0. -/
def loByte (w : Word) : Byte := BitVec.ofNat 8 (w.toNat % 256)

/-- One populated entry of the catalog: the instruction its opcode byte selects, waiting for 0, 1 or 2 operand bytes
(R70). -/
inductive Entry where
  | plain (i : Instr)
  | data8 (f : Byte → Instr)
  | data16 (f : Word → Instr)

/-! The opcode map of R82, one list for each high nibble; `none` is an unpopulated byte (R86). -/

def opcodeRow0 : List (Option Entry) :=
  [some (.plain .nop), some (.data16 .lxiB), some (.plain .staxB), some (.plain .inxB),
   some (.plain .inrB), some (.plain .dcrB), some (.data8 .mviB), some (.plain .rlc),
   none, some (.plain .dadB), some (.plain .ldaxB), some (.plain .dcxB),
   some (.plain .inrC), some (.plain .dcrC), some (.data8 .mviC), some (.plain .rrc)]

def opcodeRow1 : List (Option Entry) :=
  [none, some (.data16 .lxiD), some (.plain .staxD), some (.plain .inxD),
   some (.plain .inrD), some (.plain .dcrD), some (.data8 .mviD), some (.plain .ral),
   none, some (.plain .dadD), some (.plain .ldaxD), some (.plain .dcxD),
   some (.plain .inrE), some (.plain .dcrE), some (.data8 .mviE), some (.plain .rar)]

def opcodeRow2 : List (Option Entry) :=
  [some (.plain .rim), some (.data16 .lxiH), some (.data16 .shld), some (.plain .inxH),
   some (.plain .inrH), some (.plain .dcrH), some (.data8 .mviH), some (.plain .daa),
   none, some (.plain .dadH), some (.data16 .lhld), some (.plain .dcxH),
   some (.plain .inrL), some (.plain .dcrL), some (.data8 .mviL), some (.plain .cma)]

def opcodeRow3 : List (Option Entry) :=
  [some (.plain .sim), some (.data16 .lxiSP), some (.data16 .sta), some (.plain .inxSP),
   some (.plain .inrM), some (.plain .dcrM), some (.data8 .mviM), some (.plain .stc),
   none, some (.plain .dadSP), some (.data16 .lda), some (.plain .dcxSP),
   some (.plain .inrA), some (.plain .dcrA), some (.data8 .mviA), some (.plain .cmc)]

def opcodeRow4 : List (Option Entry) :=
  [some (.plain .movBB), some (.plain .movBC), some (.plain .movBD), some (.plain .movBE),
   some (.plain .movBH), some (.plain .movBL), some (.plain .movBM), some (.plain .movBA),
   some (.plain .movCB), some (.plain .movCC), some (.plain .movCD), some (.plain .movCE),
   some (.plain .movCH), some (.plain .movCL), some (.plain .movCM), some (.plain .movCA)]

def opcodeRow5 : List (Option Entry) :=
  [some (.plain .movDB), some (.plain .movDC), some (.plain .movDD), some (.plain .movDE),
   some (.plain .movDH), some (.plain .movDL), some (.plain .movDM), some (.plain .movDA),
   some (.plain .movEB), some (.plain .movEC), some (.plain .movED), some (.plain .movEE),
   some (.plain .movEH), some (.plain .movEL), some (.plain .movEM), some (.plain .movEA)]

def opcodeRow6 : List (Option Entry) :=
  [some (.plain .movHB), some (.plain .movHC), some (.plain .movHD), some (.plain .movHE),
   some (.plain .movHH), some (.plain .movHL), some (.plain .movHM), some (.plain .movHA),
   some (.plain .movLB), some (.plain .movLC), some (.plain .movLD), some (.plain .movLE),
   some (.plain .movLH), some (.plain .movLL), some (.plain .movLM), some (.plain .movLA)]

def opcodeRow7 : List (Option Entry) :=
  [some (.plain .movMB), some (.plain .movMC), some (.plain .movMD), some (.plain .movME),
   some (.plain .movMH), some (.plain .movML), some (.plain .hlt), some (.plain .movMA),
   some (.plain .movAB), some (.plain .movAC), some (.plain .movAD), some (.plain .movAE),
   some (.plain .movAH), some (.plain .movAL), some (.plain .movAM), some (.plain .movAA)]

def opcodeRow8 : List (Option Entry) :=
  [some (.plain .addB), some (.plain .addC), some (.plain .addD), some (.plain .addE),
   some (.plain .addH), some (.plain .addL), some (.plain .addM), some (.plain .addA),
   some (.plain .adcB), some (.plain .adcC), some (.plain .adcD), some (.plain .adcE),
   some (.plain .adcH), some (.plain .adcL), some (.plain .adcM), some (.plain .adcA)]

def opcodeRow9 : List (Option Entry) :=
  [some (.plain .subB), some (.plain .subC), some (.plain .subD), some (.plain .subE),
   some (.plain .subH), some (.plain .subL), some (.plain .subM), some (.plain .subA),
   some (.plain .sbbB), some (.plain .sbbC), some (.plain .sbbD), some (.plain .sbbE),
   some (.plain .sbbH), some (.plain .sbbL), some (.plain .sbbM), some (.plain .sbbA)]

def opcodeRowA : List (Option Entry) :=
  [some (.plain .anaB), some (.plain .anaC), some (.plain .anaD), some (.plain .anaE),
   some (.plain .anaH), some (.plain .anaL), some (.plain .anaM), some (.plain .anaA),
   some (.plain .xraB), some (.plain .xraC), some (.plain .xraD), some (.plain .xraE),
   some (.plain .xraH), some (.plain .xraL), some (.plain .xraM), some (.plain .xraA)]

def opcodeRowB : List (Option Entry) :=
  [some (.plain .oraB), some (.plain .oraC), some (.plain .oraD), some (.plain .oraE),
   some (.plain .oraH), some (.plain .oraL), some (.plain .oraM), some (.plain .oraA),
   some (.plain .cmpB), some (.plain .cmpC), some (.plain .cmpD), some (.plain .cmpE),
   some (.plain .cmpH), some (.plain .cmpL), some (.plain .cmpM), some (.plain .cmpA)]

def opcodeRowC : List (Option Entry) :=
  [some (.plain .rnz), some (.plain .popB), some (.data16 .jnz), some (.data16 .jmp),
   some (.data16 .cnz), some (.plain .pushB), some (.data8 .adi), some (.plain .rst0),
   some (.plain .rz), some (.plain .ret), some (.data16 .jz), none,
   some (.data16 .cz), some (.data16 .call), some (.data8 .aci), some (.plain .rst1)]

def opcodeRowD : List (Option Entry) :=
  [some (.plain .rnc), some (.plain .popD), some (.data16 .jnc), some (.data8 .outPort),
   some (.data16 .cnc), some (.plain .pushD), some (.data8 .sui), some (.plain .rst2),
   some (.plain .rc), none, some (.data16 .jc), some (.data8 .inPort),
   some (.data16 .cc), none, some (.data8 .sbi), some (.plain .rst3)]

def opcodeRowE : List (Option Entry) :=
  [some (.plain .rpo), some (.plain .popH), some (.data16 .jpo), some (.plain .xthl),
   some (.data16 .cpo), some (.plain .pushH), some (.data8 .ani), some (.plain .rst4),
   some (.plain .rpe), some (.plain .pchl), some (.data16 .jpe), some (.plain .xchg),
   some (.data16 .cpe), none, some (.data8 .xri), some (.plain .rst5)]

def opcodeRowF : List (Option Entry) :=
  [some (.plain .rp), some (.plain .popPSW), some (.data16 .jp), some (.plain .di),
   some (.data16 .cp), some (.plain .pushPSW), some (.data8 .ori), some (.plain .rst6),
   some (.plain .rm), some (.plain .sphl), some (.data16 .jm), some (.plain .ei),
   some (.data16 .cm), none, some (.data8 .cpi), some (.plain .rst7)]

/-- The sixteen rows of R82. -/
def opcodeMap : List (List (Option Entry)) :=
  [opcodeRow0, opcodeRow1, opcodeRow2, opcodeRow3, opcodeRow4, opcodeRow5, opcodeRow6, opcodeRow7,
   opcodeRow8, opcodeRow9, opcodeRowA, opcodeRowB, opcodeRowC, opcodeRowD, opcodeRowE, opcodeRowF]

/-- The cell of R82 at row `op[7:4]`, column `op[3:0]`. -/
def opcodeCell (op : Byte) : Option Entry :=
  match opcodeMap[op.toNat / 16]? with
  | some row => (row[op.toNat % 16]?).join
  | none => none

/-- `catalogByByte` of R83. `docNamed` unpopulates 2F, 37 and 3F (R86). -/
def catalogByByte (ext : CatalogExtent) (op : Byte) : Option Entry :=
  match ext with
  | .full => opcodeCell op
  | .docNamed => if op = 0x2F#8 ∨ op = 0x37#8 ∨ op = 0x3F#8 then none else opcodeCell op

/-- Why bytes are no instruction: an opcode byte with no entry (R86), or bytes that end inside an instruction. -/
inductive DecodeError where
  | noBytes
  | unknownOpcode (op : Byte)
  | truncated (op : Byte)
deriving DecidableEq, Repr

/-- The instruction at the head of `bytes` and the bytes after it. A 16-bit operand is low byte first (20_memory.md
R50, R84). -/
def decode (ext : CatalogExtent) (bytes : List Byte) : Except DecodeError (Instr × List Byte) :=
  match bytes with
  | [] => .error .noBytes
  | op :: rest =>
    match catalogByByte ext op with
    | none => .error (.unknownOpcode op)
    | some (.plain i) => .ok (i, rest)
    | some (.data8 f) =>
      match rest with
      | d8 :: rest => .ok (f d8, rest)
      | [] => .error (.truncated op)
    | some (.data16 f) =>
      match rest with
      | lo :: hi :: rest => .ok (f (joinBytes hi lo), rest)
      | _ => .error (.truncated op)

/-- Format F2 of R70. -/
def encodeData8 (op d8 : Byte) : List Byte := [op, d8]

/-- Format F3 of R70. -/
def encodeData16 (op : Byte) (d16 : Word) : List Byte := [op, loByte d16, hiByte d16]

/-- The bytes of an instruction (R70, R81, R91). -/
def encode : Instr → List Byte
  | .nop => [0x00#8]
  | .lxiB d16 => encodeData16 0x01#8 d16
  | .staxB => [0x02#8]
  | .inxB => [0x03#8]
  | .inrB => [0x04#8]
  | .dcrB => [0x05#8]
  | .mviB d8 => encodeData8 0x06#8 d8
  | .rlc => [0x07#8]
  | .dadB => [0x09#8]
  | .ldaxB => [0x0A#8]
  | .dcxB => [0x0B#8]
  | .inrC => [0x0C#8]
  | .dcrC => [0x0D#8]
  | .mviC d8 => encodeData8 0x0E#8 d8
  | .rrc => [0x0F#8]
  | .lxiD d16 => encodeData16 0x11#8 d16
  | .staxD => [0x12#8]
  | .inxD => [0x13#8]
  | .inrD => [0x14#8]
  | .dcrD => [0x15#8]
  | .mviD d8 => encodeData8 0x16#8 d8
  | .ral => [0x17#8]
  | .dadD => [0x19#8]
  | .ldaxD => [0x1A#8]
  | .dcxD => [0x1B#8]
  | .inrE => [0x1C#8]
  | .dcrE => [0x1D#8]
  | .mviE d8 => encodeData8 0x1E#8 d8
  | .rar => [0x1F#8]
  | .rim => [0x20#8]
  | .lxiH d16 => encodeData16 0x21#8 d16
  | .shld a16 => encodeData16 0x22#8 a16
  | .inxH => [0x23#8]
  | .inrH => [0x24#8]
  | .dcrH => [0x25#8]
  | .mviH d8 => encodeData8 0x26#8 d8
  | .daa => [0x27#8]
  | .dadH => [0x29#8]
  | .lhld a16 => encodeData16 0x2A#8 a16
  | .dcxH => [0x2B#8]
  | .inrL => [0x2C#8]
  | .dcrL => [0x2D#8]
  | .mviL d8 => encodeData8 0x2E#8 d8
  | .cma => [0x2F#8]
  | .sim => [0x30#8]
  | .lxiSP d16 => encodeData16 0x31#8 d16
  | .sta a16 => encodeData16 0x32#8 a16
  | .inxSP => [0x33#8]
  | .inrM => [0x34#8]
  | .dcrM => [0x35#8]
  | .mviM d8 => encodeData8 0x36#8 d8
  | .stc => [0x37#8]
  | .dadSP => [0x39#8]
  | .lda a16 => encodeData16 0x3A#8 a16
  | .dcxSP => [0x3B#8]
  | .inrA => [0x3C#8]
  | .dcrA => [0x3D#8]
  | .mviA d8 => encodeData8 0x3E#8 d8
  | .cmc => [0x3F#8]
  | .movBB => [0x40#8]
  | .movBC => [0x41#8]
  | .movBD => [0x42#8]
  | .movBE => [0x43#8]
  | .movBH => [0x44#8]
  | .movBL => [0x45#8]
  | .movBM => [0x46#8]
  | .movBA => [0x47#8]
  | .movCB => [0x48#8]
  | .movCC => [0x49#8]
  | .movCD => [0x4A#8]
  | .movCE => [0x4B#8]
  | .movCH => [0x4C#8]
  | .movCL => [0x4D#8]
  | .movCM => [0x4E#8]
  | .movCA => [0x4F#8]
  | .movDB => [0x50#8]
  | .movDC => [0x51#8]
  | .movDD => [0x52#8]
  | .movDE => [0x53#8]
  | .movDH => [0x54#8]
  | .movDL => [0x55#8]
  | .movDM => [0x56#8]
  | .movDA => [0x57#8]
  | .movEB => [0x58#8]
  | .movEC => [0x59#8]
  | .movED => [0x5A#8]
  | .movEE => [0x5B#8]
  | .movEH => [0x5C#8]
  | .movEL => [0x5D#8]
  | .movEM => [0x5E#8]
  | .movEA => [0x5F#8]
  | .movHB => [0x60#8]
  | .movHC => [0x61#8]
  | .movHD => [0x62#8]
  | .movHE => [0x63#8]
  | .movHH => [0x64#8]
  | .movHL => [0x65#8]
  | .movHM => [0x66#8]
  | .movHA => [0x67#8]
  | .movLB => [0x68#8]
  | .movLC => [0x69#8]
  | .movLD => [0x6A#8]
  | .movLE => [0x6B#8]
  | .movLH => [0x6C#8]
  | .movLL => [0x6D#8]
  | .movLM => [0x6E#8]
  | .movLA => [0x6F#8]
  | .movMB => [0x70#8]
  | .movMC => [0x71#8]
  | .movMD => [0x72#8]
  | .movME => [0x73#8]
  | .movMH => [0x74#8]
  | .movML => [0x75#8]
  | .hlt => [0x76#8]
  | .movMA => [0x77#8]
  | .movAB => [0x78#8]
  | .movAC => [0x79#8]
  | .movAD => [0x7A#8]
  | .movAE => [0x7B#8]
  | .movAH => [0x7C#8]
  | .movAL => [0x7D#8]
  | .movAM => [0x7E#8]
  | .movAA => [0x7F#8]
  | .addB => [0x80#8]
  | .addC => [0x81#8]
  | .addD => [0x82#8]
  | .addE => [0x83#8]
  | .addH => [0x84#8]
  | .addL => [0x85#8]
  | .addM => [0x86#8]
  | .addA => [0x87#8]
  | .adcB => [0x88#8]
  | .adcC => [0x89#8]
  | .adcD => [0x8A#8]
  | .adcE => [0x8B#8]
  | .adcH => [0x8C#8]
  | .adcL => [0x8D#8]
  | .adcM => [0x8E#8]
  | .adcA => [0x8F#8]
  | .subB => [0x90#8]
  | .subC => [0x91#8]
  | .subD => [0x92#8]
  | .subE => [0x93#8]
  | .subH => [0x94#8]
  | .subL => [0x95#8]
  | .subM => [0x96#8]
  | .subA => [0x97#8]
  | .sbbB => [0x98#8]
  | .sbbC => [0x99#8]
  | .sbbD => [0x9A#8]
  | .sbbE => [0x9B#8]
  | .sbbH => [0x9C#8]
  | .sbbL => [0x9D#8]
  | .sbbM => [0x9E#8]
  | .sbbA => [0x9F#8]
  | .anaB => [0xA0#8]
  | .anaC => [0xA1#8]
  | .anaD => [0xA2#8]
  | .anaE => [0xA3#8]
  | .anaH => [0xA4#8]
  | .anaL => [0xA5#8]
  | .anaM => [0xA6#8]
  | .anaA => [0xA7#8]
  | .xraB => [0xA8#8]
  | .xraC => [0xA9#8]
  | .xraD => [0xAA#8]
  | .xraE => [0xAB#8]
  | .xraH => [0xAC#8]
  | .xraL => [0xAD#8]
  | .xraM => [0xAE#8]
  | .xraA => [0xAF#8]
  | .oraB => [0xB0#8]
  | .oraC => [0xB1#8]
  | .oraD => [0xB2#8]
  | .oraE => [0xB3#8]
  | .oraH => [0xB4#8]
  | .oraL => [0xB5#8]
  | .oraM => [0xB6#8]
  | .oraA => [0xB7#8]
  | .cmpB => [0xB8#8]
  | .cmpC => [0xB9#8]
  | .cmpD => [0xBA#8]
  | .cmpE => [0xBB#8]
  | .cmpH => [0xBC#8]
  | .cmpL => [0xBD#8]
  | .cmpM => [0xBE#8]
  | .cmpA => [0xBF#8]
  | .rnz => [0xC0#8]
  | .popB => [0xC1#8]
  | .jnz a16 => encodeData16 0xC2#8 a16
  | .jmp a16 => encodeData16 0xC3#8 a16
  | .cnz a16 => encodeData16 0xC4#8 a16
  | .pushB => [0xC5#8]
  | .adi d8 => encodeData8 0xC6#8 d8
  | .rst0 => [0xC7#8]
  | .rz => [0xC8#8]
  | .ret => [0xC9#8]
  | .jz a16 => encodeData16 0xCA#8 a16
  | .cz a16 => encodeData16 0xCC#8 a16
  | .call a16 => encodeData16 0xCD#8 a16
  | .aci d8 => encodeData8 0xCE#8 d8
  | .rst1 => [0xCF#8]
  | .rnc => [0xD0#8]
  | .popD => [0xD1#8]
  | .jnc a16 => encodeData16 0xD2#8 a16
  | .outPort d8 => encodeData8 0xD3#8 d8
  | .cnc a16 => encodeData16 0xD4#8 a16
  | .pushD => [0xD5#8]
  | .sui d8 => encodeData8 0xD6#8 d8
  | .rst2 => [0xD7#8]
  | .rc => [0xD8#8]
  | .jc a16 => encodeData16 0xDA#8 a16
  | .inPort d8 => encodeData8 0xDB#8 d8
  | .cc a16 => encodeData16 0xDC#8 a16
  | .sbi d8 => encodeData8 0xDE#8 d8
  | .rst3 => [0xDF#8]
  | .rpo => [0xE0#8]
  | .popH => [0xE1#8]
  | .jpo a16 => encodeData16 0xE2#8 a16
  | .xthl => [0xE3#8]
  | .cpo a16 => encodeData16 0xE4#8 a16
  | .pushH => [0xE5#8]
  | .ani d8 => encodeData8 0xE6#8 d8
  | .rst4 => [0xE7#8]
  | .rpe => [0xE8#8]
  | .pchl => [0xE9#8]
  | .jpe a16 => encodeData16 0xEA#8 a16
  | .xchg => [0xEB#8]
  | .cpe a16 => encodeData16 0xEC#8 a16
  | .xri d8 => encodeData8 0xEE#8 d8
  | .rst5 => [0xEF#8]
  | .rp => [0xF0#8]
  | .popPSW => [0xF1#8]
  | .jp a16 => encodeData16 0xF2#8 a16
  | .di => [0xF3#8]
  | .cp a16 => encodeData16 0xF4#8 a16
  | .pushPSW => [0xF5#8]
  | .ori d8 => encodeData8 0xF6#8 d8
  | .rst6 => [0xF7#8]
  | .rm => [0xF8#8]
  | .sphl => [0xF9#8]
  | .jm a16 => encodeData16 0xFA#8 a16
  | .ei => [0xFB#8]
  | .cm a16 => encodeData16 0xFC#8 a16
  | .cpi d8 => encodeData8 0xFE#8 d8
  | .rst7 => [0xFF#8]

/-- The `k`-th byte of a word of table bits: bit 0 is the least significant bit of the first byte. -/
def tableByte (nbits w k : Nat) : Byte := BitVec.ofNat 8 ((w % 2 ^ nbits) / 256 ^ k)

/-- The three bytes, the longest instruction's, that a word of table bits stands for. -/
def tableBytes (nbits w : Nat) : List Byte :=
  [tableByte nbits w 0, tableByte nbits w 1, tableByte nbits w 2]

/-- What the decoder reads from a word of table bits, under the default CATALOG_EXTENT. -/
def decodeTableWord (nbits w : Nat) : Option Instr :=
  if nbits < 8 then none
  else
    match decode .full (tableBytes nbits w) with
    | .ok (i, _) => some i
    | .error _ => none

/-! The catalog as R72 builds it: descriptors, each expanded by its operand kind. -/

/-- A descriptor's action, by operand kind: the instruction for each operand context (R84). -/
inductive Action where
  | none (i : Instr)
  | data8 (f : Byte → Instr)
  | data16 (f : Word → Instr)
  | labelAddress16 (f : Word → Instr)
  | register (f : Reg → Instr)
  | registerOrMemory (f : Operand8 → Instr)
  | registerPairOrSP (f : PairSP → Instr)
  | registerPairOrPSW (f : PairPSW → Instr)
  | registerPairBD (f : PairBD → Instr)
  | index3Bit (f : Fin 8 → Instr)

def Action.kind : Action → OperandKind
  | .none _ => .none
  | .data8 _ => .data8
  | .data16 _ => .data16
  | .labelAddress16 _ => .labelAddress16
  | .register _ => .register
  | .registerOrMemory _ => .registerOrMemory
  | .registerPairOrSP _ => .registerPairOrSP
  | .registerPairOrPSW _ => .registerPairOrPSW
  | .registerPairBD _ => .registerPairBD
  | .index3Bit _ => .index3Bit

/-- A descriptor (00_scope.md R15): code, spacing and action; the kind is the action's. -/
structure Descriptor where
  code : Nat
  spacing : Nat := 1
  action : Action

/-- The seven registers in the order of their offsets. -/
def Reg.all : List Reg := [.b, .c, .d, .e, .h, .l, .a]

/-- The eight operands of a RegisterOrMemory row. -/
def Operand8.all : List Operand8 := Reg.all.map .reg ++ [.m]

def Pair.all : List Pair := [.b, .d, .h]

def PairSP.all : List PairSP := Pair.all.map .rp ++ [.sp]

def PairPSW.all : List PairPSW := Pair.all.map .rp ++ [.psw]

/-- The entries of a descriptor, each with its opcode byte (R74 to R79). -/
def Descriptor.expand (desc : Descriptor) : List (Byte × Entry) :=
  let at' (n : Nat) : Byte := BitVec.ofNat 8 (desc.code + n)
  match desc.action with
  | .none i => [(at' 0, .plain i)]
  | .data8 f => [(at' 0, .data8 f)]
  | .data16 f => [(at' 0, .data16 f)]
  | .labelAddress16 f => [(at' 0, .data16 f)]
  | .register f => Reg.all.map fun r => (at' (r.offset * desc.spacing), .plain (f r))
  | .registerOrMemory f => Operand8.all.map fun o => (at' (o.offset * desc.spacing), .plain (f o))
  | .registerPairOrSP f =>
    PairSP.all.map fun p => (at' (p.code * 0x10), .plain (f p))
  | .registerPairOrPSW f =>
    PairPSW.all.map fun p => (at' (p.code * 0x10), .plain (f p))
  | .registerPairBD f => [PairBD.b, PairBD.d].map fun p => (at' (p.code * 0x10), .plain (f p))
  | .index3Bit f => (List.finRange 8).map fun n => (at' (8 * n.val), .plain (f n))

/-- The keys "mov b" to "mov a" of R81: a register or M into `dst`. -/
def Instr.movInto (dst : Reg) : Operand8 → Instr
  | .reg r => .movRegReg dst r
  | .m => .movRegMem dst

def condDescriptors (base : Nat) (f : Cond → Action) : List Descriptor :=
  [.nz, .z, .nc, .c, .po, .pe, .p, .m].map fun cc => { code := base + 8 * cc.code, action := f cc }

/-- The descriptor table of R81, rows 00 to 3F. -/
def descriptorsLow : List Descriptor :=
  [{ code := 0x00, action := .none .nop },
   { code := 0x01, action := .data16 (.lxi (.rp .b)) },
   { code := 0x11, action := .data16 (.lxi (.rp .d)) },
   { code := 0x21, action := .data16 (.lxi (.rp .h)) },
   { code := 0x31, action := .data16 (.lxi .sp) },
   { code := 0x02, action := .registerPairBD .stax },
   { code := 0x0A, action := .registerPairBD .ldax },
   { code := 0x03, action := .registerPairOrSP .inx },
   { code := 0x0B, action := .registerPairOrSP .dcx },
   { code := 0x09, action := .registerPairOrSP .dad },
   { code := 0x04, spacing := 8, action := .registerOrMemory .inr },
   { code := 0x05, spacing := 8, action := .registerOrMemory .dcr },
   { code := 0x06, action := .data8 (.mvi (.reg .b)) },
   { code := 0x0E, action := .data8 (.mvi (.reg .c)) },
   { code := 0x16, action := .data8 (.mvi (.reg .d)) },
   { code := 0x1E, action := .data8 (.mvi (.reg .e)) },
   { code := 0x26, action := .data8 (.mvi (.reg .h)) },
   { code := 0x2E, action := .data8 (.mvi (.reg .l)) },
   { code := 0x36, action := .data8 (.mvi .m) },
   { code := 0x3E, action := .data8 (.mvi (.reg .a)) },
   { code := 0x07, action := .none .rlc },
   { code := 0x0F, action := .none .rrc },
   { code := 0x17, action := .none .ral },
   { code := 0x1F, action := .none .rar },
   { code := 0x20, action := .none .rim },
   { code := 0x30, action := .none .sim },
   { code := 0x22, action := .data16 .shld },
   { code := 0x2A, action := .data16 .lhld },
   { code := 0x32, action := .data16 .sta },
   { code := 0x3A, action := .data16 .lda },
   { code := 0x27, action := .none .daa },
   { code := 0x2F, action := .none .cma },
   { code := 0x37, action := .none .stc },
   { code := 0x3F, action := .none .cmc }]

/-- The descriptor table of R81, rows 40 to BF. -/
def descriptorsMid : List Descriptor :=
  [{ code := 0x40, action := .registerOrMemory (.movInto .b) },
   { code := 0x48, action := .registerOrMemory (.movInto .c) },
   { code := 0x50, action := .registerOrMemory (.movInto .d) },
   { code := 0x58, action := .registerOrMemory (.movInto .e) },
   { code := 0x60, action := .registerOrMemory (.movInto .h) },
   { code := 0x68, action := .registerOrMemory (.movInto .l) },
   { code := 0x70, action := .register .movMemReg },
   { code := 0x76, action := .none .hlt },
   { code := 0x78, action := .registerOrMemory (.movInto .a) },
   { code := 0x80, action := .registerOrMemory .add },
   { code := 0x88, action := .registerOrMemory .adc },
   { code := 0x90, action := .registerOrMemory .sub },
   { code := 0x98, action := .registerOrMemory .sbb },
   { code := 0xA0, action := .registerOrMemory .ana },
   { code := 0xA8, action := .registerOrMemory .xra },
   { code := 0xB0, action := .registerOrMemory .ora },
   { code := 0xB8, action := .registerOrMemory .cmp }]

/-- The descriptor table of R81, rows C0 to FF. -/
def descriptorsHigh : List Descriptor :=
  condDescriptors 0xC0 (fun cc => .none (.rcc cc)) ++
  condDescriptors 0xC2 (fun cc => .labelAddress16 (.jcc cc)) ++
  condDescriptors 0xC4 (fun cc => .labelAddress16 (.ccc cc)) ++
  [{ code := 0xC1, action := .registerPairOrPSW .pop },
   { code := 0xC5, action := .registerPairOrPSW .push },
   { code := 0xC3, action := .labelAddress16 .jmp },
   { code := 0xCD, action := .labelAddress16 .call },
   { code := 0xC9, action := .none .ret },
   { code := 0xC6, action := .data8 .adi },
   { code := 0xCE, action := .data8 .aci },
   { code := 0xD6, action := .data8 .sui },
   { code := 0xDE, action := .data8 .sbi },
   { code := 0xE6, action := .data8 .ani },
   { code := 0xEE, action := .data8 .xri },
   { code := 0xF6, action := .data8 .ori },
   { code := 0xFE, action := .data8 .cpi },
   { code := 0xC7, spacing := 8, action := .index3Bit .rst },
   { code := 0xD3, action := .data8 .outPort },
   { code := 0xDB, action := .data8 .inPort },
   { code := 0xE3, action := .none .xthl },
   { code := 0xE9, action := .none .pchl },
   { code := 0xEB, action := .none .xchg },
   { code := 0xF3, action := .none .di },
   { code := 0xF9, action := .none .sphl },
   { code := 0xFB, action := .none .ei }]

/-- The catalog of R72 under CATALOG_EXTENT `full`: every entry with its opcode byte. -/
def catalogEntries : List (Byte × Entry) :=
  (descriptorsLow ++ descriptorsMid ++ descriptorsHigh).flatMap Descriptor.expand

end Sys2Proof
end

