-- ==== Sys2Proof/Machine/State.lean ====
section
/-!
DEFINITION. The state of the engine as plain data (10_state.md R20), what a step can stop with, and the state after
construction (R41, 70_reset_and_hazards.md R321).
-/

namespace Sys2Proof.Machine

/-- The seven general registers (10_state.md R21). -/
structure Regs where
  b : Byte
  c : Byte
  d : Byte
  e : Byte
  h : Byte
  l : Byte
  a : Byte
deriving DecidableEq, Repr

/-- The five flags (R30). -/
structure Flags where
  s : Bool
  z : Bool
  ac : Bool
  p : Bool
  c : Bool
deriving DecidableEq, Repr

/-- Memory (R37): the bytes that differ from what an unlisted address reads as, by rising address. -/
abbrev Memory := List Host.Cell

/-- An event of a step (70_reset_and_hazards.md R326, 45_machine_control.md R262, R267). -/
inductive Event where
  | halted
  | ioOut (port value : Byte)
deriving DecidableEq, Repr

/-- The state. The first six fields and `mem` are the architectural state of R20; `faulted` is the mark of R40; `events`
is the output of the last step (R320, R326), emptied when a step begins; `draws` counts the IO_IN draws made (the
model's own field, notes/assumptions/9.md); `params` holds the parameters of 00_scope.md R8, which no step changes. -/
structure State where
  regs : Regs
  flags : Flags
  pc : Word
  sp : Word
  im : Byte
  mem : Memory
  faulted : Bool
  events : List Event
  draws : Nat
  params : Params
deriving DecidableEq, Repr

/-- Why a step fails, with the state the failure leaves (70_reset_and_hazards.md R320: `Failed(state', failure)`). -/
inductive Fault where
  /-- Raised by `step` when the opcode byte at `address` has no catalog entry (60_exceptions.md R301). Safe: the spec
  names this failure. -/
  | unknownOpcode (byte : Byte) (address : Word) (after : State)
  /-- Raised by a byte access, a fetch included, at an address not below MEM_SIZE (R302). Safe: the spec names this
  failure; which earlier writes of the instruction `after` shows is a free value. -/
  | memoryOutOfRange (address : Word) (after : State)
  /-- Raised by `step` in a Faulted state, from which there is no transition (R304). Safe: the machine stays stopped. -/
  | alreadyFaulted (after : State)
deriving DecidableEq, Repr

/-- Why an instruction has no meaning. -/
inductive Refusal where
  /-- Kept for an arm of `exec` with no meaning yet; no arm raises it. Safe. -/
  | notModelled (mnemonic : String)
deriving DecidableEq, Repr

/-- What an instruction answers. -/
abbrev Result := Host.Outcome State Fault Refusal

/-- RESET_STATE of 00_scope.md R8: the values at construction. -/
structure ResetState where
  regs : Regs
  flags : Flags
  pc : Word
  sp : Word
  im : Byte
deriving DecidableEq, Repr

/-- The default RESET_STATE (10_state.md R41). -/
def ResetState.default : ResetState :=
  { regs := { b := 0x00#8, c := 0x00#8, d := 0x00#8, e := 0x00#8, h := 0x00#8, l := 0x00#8, a := 0x00#8 }
    flags := { s := false, z := false, ac := false, p := false, c := false }
    pc := 0x0000#16
    sp := 0x0000#16
    im := 0x00#8 }

/-- `new` (70_reset_and_hazards.md R321) with its parameters: memory with nothing written, Faulted mark clear. -/
def State.construct (params : Params) (init : ResetState) : State :=
  { regs := init.regs
    flags := init.flags
    pc := init.pc
    sp := init.sp
    im := init.im
    mem := []
    faulted := false
    events := []
    draws := 0
    params := params }

/-- The engine after `new` with every parameter at its default (R41, R321). -/
def State.reset : State := State.construct Params.default ResetState.default

end Sys2Proof.Machine
end

