-- ==== Sys2Proof/Machine/Ops.lean ====
section
/-!
DEFINITION. The named operations over registers, pairs, memory, the stack, the interrupt mask, events and failures.
An operation that can fail takes what follows it as its last argument, so a meaning reads in the order of its rule's
pseudocode (00_scope.md R12).
-/

namespace Sys2Proof.Machine

/-! ## Sequencing -/

/-- Go on with `k` when `r` completes. -/
def andThen (r : Result) (k : State → Result) : Result :=
  match r with
  | .next t => k t
  | .fault f => .fault f
  | .refused x => .refused x

/-! ## General registers and pairs (10_state.md R21, R25; 00_scope.md R10) -/

def Regs.get (g : Regs) : Reg → Byte
  | .b => g.b
  | .c => g.c
  | .d => g.d
  | .e => g.e
  | .h => g.h
  | .l => g.l
  | .a => g.a

def Regs.set (g : Regs) (r : Reg) (v : Byte) : Regs :=
  match r with
  | .b => { g with b := v }
  | .c => { g with c := v }
  | .d => { g with d := v }
  | .e => { g with e := v }
  | .h => { g with h := v }
  | .l => { g with l := v }
  | .a => { g with a := v }

/-- `x[r]`. -/
def State.reg (s : State) (r : Reg) : Byte := s.regs.get r

/-- `x[r] <- v`. -/
def State.setReg (s : State) (r : Reg) (v : Byte) : State := { s with regs := s.regs.set r v }

/-- The high register of a pair (R25). -/
def pairHigh : Pair → Reg
  | .b => .b
  | .d => .d
  | .h => .h

/-- The low register of a pair (R25). -/
def pairLow : Pair → Reg
  | .b => .c
  | .d => .e
  | .h => .l

/-- `pair(p)` for a pair of registers: `x[high] : x[low]`. -/
def State.pair (s : State) (p : Pair) : Word := joinBytes (s.reg (pairHigh p)) (s.reg (pairLow p))

/-- `pair(p) <- w`. -/
def State.setPair (s : State) (p : Pair) (w : Word) : State :=
  (s.setReg (pairHigh p) (hiByte w)).setReg (pairLow p) (loByte w)

/-- `pair(p)` with SP as code 3 (R25). -/
def State.pairSP (s : State) : PairSP → Word
  | .rp p => s.pair p
  | .sp => s.sp

def State.setPairSP (s : State) (p : PairSP) (w : Word) : State :=
  match p with
  | .rp p => s.setPair p w
  | .sp => { s with sp := w }

/-! ## Memory (10_state.md R37, 20_memory.md) -/

/-- What an address nothing was written to reads as (R41, 70_reset_and_hazards.md R322). -/
def Memory.unlisted : Byte := 0x00#8

def Memory.read : Memory → Nat → Byte
  | [], _ => Memory.unlisted
  | (k, v) :: m, a => if k = a then v else Memory.read m a

/-- Write one byte and keep the canonical form: rising addresses, nothing listed that reads as `unlisted`. -/
def Memory.write : Memory → Nat → Byte → Memory
  | [], a, v => if v = Memory.unlisted then [] else [(a, v)]
  | (k, w) :: m, a, v =>
    if a < k then
      if v = Memory.unlisted then (k, w) :: m else (a, v) :: (k, w) :: m
    else if a = k then
      if v = Memory.unlisted then m else (a, v) :: m
    else (k, w) :: Memory.write m a v

/-- The canonical form. -/
def Memory.wf : Memory → Bool
  | [] => true
  | (k, v) :: m => (v != Memory.unlisted) && m.all (fun c => decide (k < c.1)) && Memory.wf m

/-- Every listed address is below `n`. -/
def Memory.below (n : Nat) (m : Memory) : Bool := m.all fun c => decide (c.1 < n)

/-- The address is one of the MEM_SIZE addresses (20_memory.md R59). -/
def State.present (s : State) (a : Word) : Bool := decide (a.toNat < s.params.memSize)

/-- The byte in memory at `a`. -/
def State.byteAt (s : State) (a : Word) : Byte := s.mem.read a.toNat

def State.setByte (s : State) (a : Word) (v : Byte) : State := { s with mem := s.mem.write a.toNat v }

/-! ## Failures (60_exceptions.md R300 to R305)

The engine has no trap: a failure saves nothing, goes nowhere and is not returned from (R300, R304, R305). It ends the
step with the Faulted mark set. These three are the only operations that end a step. -/

def State.markFaulted (s : State) : State := { s with faulted := true }

/-- UnknownOpcode (R301): `s` is the state after the opcode fetch, `address` the pc before it. -/
def raiseUnknownOpcode (op : Byte) (address : Word) (s : State) : Result :=
  .fault (.unknownOpcode op address s.markFaulted)

/-- MemoryOutOfRange (R302). -/
def raiseMemoryOutOfRange (address : Word) (s : State) : Result :=
  .fault (.memoryOutOfRange address s.markFaulted)

/-- A step from a Faulted state (R304): no transition. -/
def raiseAlreadyFaulted (s : State) : Result := .fault (.alreadyFaulted s)

/-- R302: the writes of an instruction before its failing access "may or may not have taken effect". `now` is the state
at the failing access and `before` the one the writes began from. -/
def blendPartial (before now : State) : State :=
  { now with
    regs := if Config.partialKept now.draws .registers then now.regs else before.regs
    sp := if Config.partialKept now.draws .stackPointer then now.sp else before.sp
    mem := if Config.partialKept now.draws .memory then now.mem else before.mem }

/-- Open the writes that came before a MemoryOutOfRange failure of `r`, which began in `before`. -/
def settlePartial (before : State) (r : Result) : Result :=
  match r with
  | .fault (.memoryOutOfRange a now) => .fault (.memoryOutOfRange a (blendPartial before now))
  | .fault f => .fault f
  | .next t => .next t
  | .refused x => .refused x

/-! ## Byte accesses (00_scope.md R11, R12) -/

/-- `MemRead(a, 1)`, then `k` with the byte. -/
def memRead (s : State) (a : Word) (k : Byte → Result) : Result :=
  if s.present a then k (s.byteAt a) else raiseMemoryOutOfRange a s

/-- `MemWrite(a, 1, v)`, then `k` with the state. -/
def memWrite (s : State) (a : Word) (v : Byte) (k : State → Result) : Result :=
  if s.present a then k (s.setByte a v) else raiseMemoryOutOfRange a s

/-- `fetch8()`: the byte at pc, pc moved past it (R12, 10_state.md R27). -/
def fetch8 (s : State) (k : Byte → State → Result) : Result :=
  memRead s s.pc fun v => k v { s with pc := s.pc + 1#16 }

/-- The pc after the move `e` from `before` to `now`, which may or may not have taken effect (R302). -/
def partialPc (s : State) (e : PartialEffect) (before now : Word) : Word :=
  if Config.partialKept s.draws e then now else before

/-- `fetch8()` of an operand byte. If the byte is absent, pc is left at `failPc`: the fetches before it may or may not have
taken effect (R302). -/
def fetchOperand (s : State) (failPc : Word) (k : Byte → State → Result) : Result :=
  if s.present s.pc then fetch8 s k else raiseMemoryOutOfRange s.pc { s with pc := failPc }

/-! ## The stack (20_memory.md R53, 43_stack.md R226): high byte at the lower address -/

/-- `push(w)`. -/
def push (w : Word) (s : State) : Result :=
  settlePartial s <|
    memWrite { s with sp := s.sp - 2#16 } (s.sp - 2#16) (hiByte w) fun s1 =>
      memWrite s1 (s.sp - 2#16 + 1#16) (loByte w) .next

/-- `StackRead(sp)`, then `k` with the word. -/
def stackRead (s : State) (k : Word → Result) : Result :=
  memRead s s.sp fun hb => memRead s (s.sp + 1#16) fun lb => k (joinBytes hb lb)

/-- `pop()`, then `k` with the word and the state. -/
def pop (s : State) (k : Word → State → Result) : Result :=
  stackRead s fun w => k w { s with sp := s.sp + 2#16 }

/-! ## The interrupt mask (10_state.md R34, R35)

Under `standard8085` bits 4 to 7 are hard-wired 0; these two are the only access to `im`. -/

/-- The bits of `im` that exist under IM_MODEL. -/
def imImplemented (m : ImModel) : Byte :=
  match m with
  | .literal => 0xFF#8
  | .standard8085 => 0x0F#8

def State.readIm (s : State) : Byte := s.im &&& imImplemented s.params.imModel

def State.writeIm (s : State) (v : Byte) : State := { s with im := v &&& imImplemented s.params.imModel }

/-! ## Events (70_reset_and_hazards.md R326) and free values -/

/-- `emit`. -/
def State.emit (s : State) (e : Event) : State := { s with events := s.events ++ [e] }

/-- The step's list of events is empty when it begins. -/
def State.beginStep (s : State) : State := { s with events := [] }

/-- `draw IO_IN(port)` (00_scope.md R12), then `k` with the byte. -/
def drawIoIn (port : Byte) (s : State) (k : Byte → State → Result) : Result :=
  k (Config.ioIn s.draws port) { s with draws := s.draws + 1 }

end Sys2Proof.Machine
end

