-- ==== Sys2Proof/Machine/Flags.lean ====
section
/-!
DEFINITION. The flag computations of 00_scope.md R13, the conditions of 30_encoding.md R80 and the flag byte of
10_state.md R33. Sums and differences are exact, on natural numbers.
-/

namespace Sys2Proof.Machine

/-- The number of set bits (00_scope.md R9). -/
def popcount (v : Byte) : Nat := ((List.range 8).filter fun n => v.getLsbD n).length

/-- `szp(res)` of R13. -/
def Flags.szp (f : Flags) (res : Byte) : Flags :=
  { f with s := res.getLsbD 7, z := res == 0x00#8, p := popcount res % 2 == 0 }

/-- `F.AC <- b`. -/
def Flags.withAC (f : Flags) (x : Bool) : Flags := { f with ac := x }

/-- `F.C <- b`. -/
def Flags.withC (f : Flags) (x : Bool) : Flags := { f with c := x }

/-- F.C as the carry in, 0 or 1. -/
def Flags.carry (f : Flags) : Nat := f.c.toNat

/-- `addAC(x, y, c)` of R13. -/
def addAC (x y : Byte) (cin : Nat) : Bool := decide (x.toNat % 16 + y.toNat % 16 + cin > 0xF)

/-- `addC(x, y, c)` of R13. -/
def addC (x y : Byte) (cin : Nat) : Bool := decide (x.toNat + y.toNat + cin > 0xFF)

/-- `subAC(x, y, c)` of R13. -/
def subAC (x y : Byte) (cin : Nat) : Bool := decide (x.toNat % 16 < y.toNat % 16 + cin)

/-- `subLT(x, y, c)` of R13. -/
def subLT (x y : Byte) (cin : Nat) : Bool := decide (x.toNat < y.toNat + cin)

/-- `subEQ(x, y, c)` of R13. -/
def subEQ (x y : Byte) (cin : Nat) : Bool := decide (x.toNat = y.toNat + cin)

/-- `subCarry(x, y, c)` of R13: the value it leaves in F.C, which was `old`. -/
def subCarry (x y : Byte) (cin : Nat) (old : Bool) : Bool :=
  if subLT x y cin then true else if subEQ x y cin then old else false

/-- `cond(ccc)` of 30_encoding.md R80. -/
def Flags.holds (f : Flags) : Cond → Bool
  | .nz => !f.z
  | .z => f.z
  | .nc => !f.c
  | .c => f.c
  | .po => !f.p
  | .pe => f.p
  | .p => !f.s
  | .m => f.s

def Flags.get (f : Flags) : FlagName → Bool
  | .s => f.s
  | .z => f.z
  | .ac => f.ac
  | .p => f.p
  | .c => f.c

def Flags.set (f : Flags) (n : FlagName) (x : Bool) : Flags :=
  match n with
  | .s => { f with s := x }
  | .z => { f with z := x }
  | .ac => { f with ac := x }
  | .p => { f with p := x }
  | .c => { f with c := x }

/-- The flag at one bit of the flag byte. -/
def flagBit (at' : Fin 8) (x : Bool) : Byte := if x then 1#8 <<< at'.val else 0x00#8

/-- The bits of the flag byte that a flag has. -/
def layoutMask (y : PswLayout) : Byte :=
  flagBit y.s true ||| flagBit y.z true ||| flagBit y.ac true ||| flagBit y.p true ||| flagBit y.c true

/-- `flagbyte()` of R33 at the positions of PSW_LAYOUT. -/
def flagByte (y : PswLayout) (f : Flags) : Byte :=
  (y.unused &&& ~~~(layoutMask y)) |||
    flagBit y.s f.s ||| flagBit y.z f.z ||| flagBit y.ac f.ac ||| flagBit y.p f.p ||| flagBit y.c f.c

/-- `setflags(b)` of R33 at the positions of PSW_LAYOUT. -/
def setFlags (y : PswLayout) (v : Byte) : Flags :=
  { s := v.getLsbD y.s.val
    z := v.getLsbD y.z.val
    ac := v.getLsbD y.ac.val
    p := v.getLsbD y.p.val
    c := v.getLsbD y.c.val }

end Sys2Proof.Machine
end

