-- ==== Sys2Proof/Machine/Operands.lean ====
section
/-!
DEFINITION. The operand forms: the register-or-memory multiplexer of 10_state.md R23, the pair that PUSH and POP name
(R25, R26) and the direct and pair-indirect addresses.
-/

namespace Sys2Proof.Machine

/-- `pair(H)`: the address of M (R24). -/
def State.hl (s : State) : Word := s.pair .h

/-- `src8(o)`, then `k` with the byte (R23). -/
def src8 (o : Operand8) (s : State) (k : Byte → Result) : Result :=
  match o with
  | .reg r => k (s.reg r)
  | .m => memRead s s.hl k

/-- `dst8(o) <- v` (R23). -/
def dst8 (o : Operand8) (s : State) (v : Byte) : Result :=
  match o with
  | .reg r => .next (s.setReg r v)
  | .m => memWrite s s.hl v .next

/-- The word PUSH stores (43_stack.md R220, R221). -/
def State.pairPSW (s : State) : PairPSW → Word
  | .rp p => s.pair p
  | .psw => joinBytes (s.reg .a) (flagByte s.params.pswLayout s.flags)

/-- What POP does with the word it read (R222, R223). -/
def State.setPairPSW (s : State) (p : PairPSW) (w : Word) : State :=
  match p with
  | .rp p => s.setPair p w
  | .psw => { s.setReg .a (hiByte w) with flags := setFlags s.params.pswLayout (loByte w) }

end Sys2Proof.Machine
end

