-- ==== Sys2Proof/Machine/Arithmetic.lean ====
section
/-!
DEFINITION. The meanings of the arithmetic instructions (41_arithmetic.md R140 to R155).
-/

namespace Sys2Proof.Machine

/-! ## Shared operations -/

/-- Read the operand, then change the state with it. -/
def withOperand (o : Operand8) (s : State) (f : Byte → State → State) : Result :=
  src8 o s fun v => .next (f v s)

/-- `(x + v + c) mod 256` (R154, R155). -/
def sum8 (x v : Byte) (cin : Nat) : Byte := BitVec.ofNat 8 (x.toNat + v.toNat + cin)

/-- `(x − v − c) mod 256` (R154, R155). -/
def difference8 (x v : Byte) (cin : Nat) : Byte := BitVec.ofInt 8 ((x.toNat : Int) - v.toNat - cin)

/-- ADD, ADI (R140, R141). -/
def addTo (v : Byte) (s : State) : State :=
  let x := s.reg .a
  let r := sum8 x v 0
  { s.setReg .a r with flags := ((s.flags.szp r).withAC (addAC x v 0)).withC (addC x v 0) }

/-- ADC, ACI (R142, R143): the carry out is cleared afterward. -/
def adcTo (v : Byte) (s : State) : State :=
  let x := s.reg .a
  let r := sum8 x v s.flags.carry
  { s.setReg .a r with flags := ((s.flags.szp r).withAC (addAC x v s.flags.carry)).withC false }

/-- The flags of the subtract path (00_scope.md R13) with F.C by `subCarry`. -/
def subtractFlags (f : Flags) (x v : Byte) (cin : Nat) : Flags :=
  ((f.szp (difference8 x v cin)).withAC (subAC x v cin)).withC (subCarry x v cin f.c)

/-- SUB, SUI (R144, R145). -/
def subFrom (v : Byte) (s : State) : State :=
  { s.setReg .a (difference8 (s.reg .a) v 0) with flags := subtractFlags s.flags (s.reg .a) v 0 }

/-- The flags of SBB and SBI under SBB_CARRY_MODE (R146). -/
def sbbFlags (mode : SbbCarryMode) (f : Flags) (x v : Byte) : Flags :=
  match mode with
  | .computed => subtractFlags f x v f.carry
  | .cleared => (subtractFlags f x v f.carry).withC false

/-- SBB, SBI (R146, R147). -/
def sbbFrom (v : Byte) (s : State) : State :=
  { s.setReg .a (difference8 (s.reg .a) v s.flags.carry) with
    flags := sbbFlags s.params.sbbCarryMode s.flags (s.reg .a) v }

/-- `v <- src8(o); r <- (v + 1) mod 256; dst8(o) <- r`, F.C unchanged (R148). -/
def increment (o : Operand8) (s : State) : Result :=
  src8 o s fun v =>
    dst8 o { s with flags := (s.flags.szp (sum8 v 1#8 0)).withAC (addAC v 1#8 0) } (sum8 v 1#8 0)

/-- `v <- src8(o); r <- (v − 1) mod 256; dst8(o) <- r`, F.C unchanged (R149). -/
def decrement (o : Operand8) (s : State) : Result :=
  src8 o s fun v =>
    dst8 o { s with flags := (s.flags.szp (difference8 v 1#8 0)).withAC (subAC v 1#8 0) } (difference8 v 1#8 0)

/-- `pair(rp) <- pair(rp) +16 1` (R150). -/
def incrementPair (p : PairSP) (s : State) : Result := .next (s.setPairSP p (s.pairSP p + 1#16))

/-- `pair(rp) <- pair(rp) −16 1` (R151). -/
def decrementPair (p : PairSP) (s : State) : Result := .next (s.setPairSP p (s.pairSP p - 1#16))

/-- `t <- pair(H) + pair(rp); pair(H) <- t mod 65536; F.C <- t > 0xFFFF` (R152). -/
def addPairToHL (p : PairSP) (s : State) : Result :=
  let t := s.hl.toNat + (s.pairSP p).toNat
  .next { s.setPair .h (BitVec.ofNat 16 t) with flags := s.flags.withC (decide (t > 0xFFFF)) }

/-- The correction of R153. -/
def daaCorrection (x : Byte) (f : Flags) : Byte :=
  (if x.toNat % 16 > 9 ∨ f.ac = true then 0x06#8 else 0x00#8) |||
    (if x.toNat > 0x99 ∨ f.c = true then 0x60#8 else 0x00#8)

/-- DAA under DAA_MODE `standard` (R153). -/
def decimalAdjustStandard (s : State) : State :=
  let x := s.reg .a
  let corr := daaCorrection x s.flags
  let r := sum8 x corr 0
  { s.setReg .a r with
    flags := ((s.flags.szp r).withAC (addAC x corr 0)).withC (decide (x.toNat > 0x99) || s.flags.c) }

/-- DAA (R153). -/
def decimalAdjust (s : State) : Result :=
  match s.params.daaMode with
  | .standard => .next (decimalAdjustStandard s)
  | .stub => .next s

/-! ## One meaning for each row -/

/-- INX B (R150). -/
def execInxB (s : State) : Result := incrementPair (.rp .b) s

/-- INR B (R148). -/
def execInrB (s : State) : Result := increment (.reg .b) s

/-- DCR B (R149). -/
def execDcrB (s : State) : Result := decrement (.reg .b) s

/-- DAD B (R152). -/
def execDadB (s : State) : Result := addPairToHL (.rp .b) s

/-- DCX B (R151). -/
def execDcxB (s : State) : Result := decrementPair (.rp .b) s

/-- INR C (R148). -/
def execInrC (s : State) : Result := increment (.reg .c) s

/-- DCR C (R149). -/
def execDcrC (s : State) : Result := decrement (.reg .c) s

/-- INX D (R150). -/
def execInxD (s : State) : Result := incrementPair (.rp .d) s

/-- INR D (R148). -/
def execInrD (s : State) : Result := increment (.reg .d) s

/-- DCR D (R149). -/
def execDcrD (s : State) : Result := decrement (.reg .d) s

/-- DAD D (R152). -/
def execDadD (s : State) : Result := addPairToHL (.rp .d) s

/-- DCX D (R151). -/
def execDcxD (s : State) : Result := decrementPair (.rp .d) s

/-- INR E (R148). -/
def execInrE (s : State) : Result := increment (.reg .e) s

/-- DCR E (R149). -/
def execDcrE (s : State) : Result := decrement (.reg .e) s

/-- INX H (R150). -/
def execInxH (s : State) : Result := incrementPair (.rp .h) s

/-- INR H (R148). -/
def execInrH (s : State) : Result := increment (.reg .h) s

/-- DCR H (R149). -/
def execDcrH (s : State) : Result := decrement (.reg .h) s

/-- DAA (R153). -/
def execDaa (s : State) : Result := decimalAdjust s

/-- DAD H (R152). -/
def execDadH (s : State) : Result := addPairToHL (.rp .h) s

/-- DCX H (R151). -/
def execDcxH (s : State) : Result := decrementPair (.rp .h) s

/-- INR L (R148). -/
def execInrL (s : State) : Result := increment (.reg .l) s

/-- DCR L (R149). -/
def execDcrL (s : State) : Result := decrement (.reg .l) s

/-- INX SP (R150). -/
def execInxSP (s : State) : Result := incrementPair .sp s

/-- INR M (R148). -/
def execInrM (s : State) : Result := increment .m s

/-- DCR M (R149). -/
def execDcrM (s : State) : Result := decrement .m s

/-- DAD SP (R152). -/
def execDadSP (s : State) : Result := addPairToHL .sp s

/-- DCX SP (R151). -/
def execDcxSP (s : State) : Result := decrementPair .sp s

/-- INR A (R148). -/
def execInrA (s : State) : Result := increment (.reg .a) s

/-- DCR A (R149). -/
def execDcrA (s : State) : Result := decrement (.reg .a) s

/-- ADD B (R140). -/
def execAddB (s : State) : Result := withOperand (.reg .b) s addTo

/-- ADD C (R140). -/
def execAddC (s : State) : Result := withOperand (.reg .c) s addTo

/-- ADD D (R140). -/
def execAddD (s : State) : Result := withOperand (.reg .d) s addTo

/-- ADD E (R140). -/
def execAddE (s : State) : Result := withOperand (.reg .e) s addTo

/-- ADD H (R140). -/
def execAddH (s : State) : Result := withOperand (.reg .h) s addTo

/-- ADD L (R140). -/
def execAddL (s : State) : Result := withOperand (.reg .l) s addTo

/-- ADD M (R140). -/
def execAddM (s : State) : Result := withOperand .m s addTo

/-- ADD A (R140). -/
def execAddA (s : State) : Result := withOperand (.reg .a) s addTo

/-- ADC B (R142). -/
def execAdcB (s : State) : Result := withOperand (.reg .b) s adcTo

/-- ADC C (R142). -/
def execAdcC (s : State) : Result := withOperand (.reg .c) s adcTo

/-- ADC D (R142). -/
def execAdcD (s : State) : Result := withOperand (.reg .d) s adcTo

/-- ADC E (R142). -/
def execAdcE (s : State) : Result := withOperand (.reg .e) s adcTo

/-- ADC H (R142). -/
def execAdcH (s : State) : Result := withOperand (.reg .h) s adcTo

/-- ADC L (R142). -/
def execAdcL (s : State) : Result := withOperand (.reg .l) s adcTo

/-- ADC M (R142). -/
def execAdcM (s : State) : Result := withOperand .m s adcTo

/-- ADC A (R142). -/
def execAdcA (s : State) : Result := withOperand (.reg .a) s adcTo

/-- SUB B (R144). -/
def execSubB (s : State) : Result := withOperand (.reg .b) s subFrom

/-- SUB C (R144). -/
def execSubC (s : State) : Result := withOperand (.reg .c) s subFrom

/-- SUB D (R144). -/
def execSubD (s : State) : Result := withOperand (.reg .d) s subFrom

/-- SUB E (R144). -/
def execSubE (s : State) : Result := withOperand (.reg .e) s subFrom

/-- SUB H (R144). -/
def execSubH (s : State) : Result := withOperand (.reg .h) s subFrom

/-- SUB L (R144). -/
def execSubL (s : State) : Result := withOperand (.reg .l) s subFrom

/-- SUB M (R144). -/
def execSubM (s : State) : Result := withOperand .m s subFrom

/-- SUB A (R144). -/
def execSubA (s : State) : Result := withOperand (.reg .a) s subFrom

/-- SBB B (R146). -/
def execSbbB (s : State) : Result := withOperand (.reg .b) s sbbFrom

/-- SBB C (R146). -/
def execSbbC (s : State) : Result := withOperand (.reg .c) s sbbFrom

/-- SBB D (R146). -/
def execSbbD (s : State) : Result := withOperand (.reg .d) s sbbFrom

/-- SBB E (R146). -/
def execSbbE (s : State) : Result := withOperand (.reg .e) s sbbFrom

/-- SBB H (R146). -/
def execSbbH (s : State) : Result := withOperand (.reg .h) s sbbFrom

/-- SBB L (R146). -/
def execSbbL (s : State) : Result := withOperand (.reg .l) s sbbFrom

/-- SBB M (R146). -/
def execSbbM (s : State) : Result := withOperand .m s sbbFrom

/-- SBB A (R146). -/
def execSbbA (s : State) : Result := withOperand (.reg .a) s sbbFrom

/-- ADI d8 (R141). -/
def execAdi (d8 : Byte) (s : State) : Result := .next (addTo d8 s)

/-- ACI d8 (R143). -/
def execAci (d8 : Byte) (s : State) : Result := .next (adcTo d8 s)

/-- SUI d8 (R145). -/
def execSui (d8 : Byte) (s : State) : Result := .next (subFrom d8 s)

/-- SBI d8 (R147). -/
def execSbi (d8 : Byte) (s : State) : Result := .next (sbbFrom d8 s)

end Sys2Proof.Machine
end

