-- ==== Sys2Proof/Machine/ControlTransfer.lean ====
section
/-!
DEFINITION. The meanings of the control transfer instructions (44_control_transfer.md R240 to R249). `pc` is already the address
of the next instruction (10_state.md R28).
-/

namespace Sys2Proof.Machine

/-! ## Shared operations -/

/-- `pc <- a` (R240, R247). -/
def jumpTo (a : Word) (s : State) : Result := .next { s with pc := a }

/-- `if cond(ccc) then pc <- a` (R241). -/
def jumpIf (cc : Cond) (a : Word) (s : State) : Result := if s.flags.holds cc then jumpTo a s else .next s

/-- `push(pc); pc <- a` (R242). -/
def callTo (a : Word) (s : State) : Result := andThen (push s.pc s) (jumpTo a)

/-- `if cond(ccc) then push(pc); pc <- a` (R243). -/
def callIf (cc : Cond) (a : Word) (s : State) : Result := if s.flags.holds cc then callTo a s else .next s

/-- `pc <- pop()` (R244). -/
def returnFrom (s : State) : Result := pop s fun w s1 => jumpTo w s1

/-- `if cond(ccc) then pc <- pop()` (R245). -/
def returnIf (cc : Cond) (s : State) : Result := if s.flags.holds cc then returnFrom s else .next s

/-- `push(pc); pc <- 8·n` (R246). -/
def restart (n : Fin 8) (s : State) : Result := callTo (BitVec.ofNat 16 (8 * n.val)) s

/-! ## One meaning for each row -/

/-- RNZ (R245). -/
def execRnz (s : State) : Result := returnIf .nz s

/-- JNZ a16 (R241). -/
def execJnz (a16 : Word) (s : State) : Result := jumpIf .nz a16 s

/-- JMP a16 (R240). -/
def execJmp (a16 : Word) (s : State) : Result := jumpTo a16 s

/-- CNZ a16 (R243). -/
def execCnz (a16 : Word) (s : State) : Result := callIf .nz a16 s

/-- RST 0 (R246). -/
def execRst0 (s : State) : Result := restart 0 s

/-- RZ (R245). -/
def execRz (s : State) : Result := returnIf .z s

/-- RET (R244). -/
def execRet (s : State) : Result := returnFrom s

/-- JZ a16 (R241). -/
def execJz (a16 : Word) (s : State) : Result := jumpIf .z a16 s

/-- CZ a16 (R243). -/
def execCz (a16 : Word) (s : State) : Result := callIf .z a16 s

/-- CALL a16 (R242). -/
def execCall (a16 : Word) (s : State) : Result := callTo a16 s

/-- RST 1 (R246). -/
def execRst1 (s : State) : Result := restart 1 s

/-- RNC (R245). -/
def execRnc (s : State) : Result := returnIf .nc s

/-- JNC a16 (R241). -/
def execJnc (a16 : Word) (s : State) : Result := jumpIf .nc a16 s

/-- CNC a16 (R243). -/
def execCnc (a16 : Word) (s : State) : Result := callIf .nc a16 s

/-- RST 2 (R246). -/
def execRst2 (s : State) : Result := restart 2 s

/-- RC (R245). -/
def execRc (s : State) : Result := returnIf .c s

/-- JC a16 (R241). -/
def execJc (a16 : Word) (s : State) : Result := jumpIf .c a16 s

/-- CC a16 (R243). -/
def execCc (a16 : Word) (s : State) : Result := callIf .c a16 s

/-- RST 3 (R246). -/
def execRst3 (s : State) : Result := restart 3 s

/-- RPO (R245). -/
def execRpo (s : State) : Result := returnIf .po s

/-- JPO a16 (R241). -/
def execJpo (a16 : Word) (s : State) : Result := jumpIf .po a16 s

/-- CPO a16 (R243). -/
def execCpo (a16 : Word) (s : State) : Result := callIf .po a16 s

/-- RST 4 (R246). -/
def execRst4 (s : State) : Result := restart 4 s

/-- RPE (R245). -/
def execRpe (s : State) : Result := returnIf .pe s

/-- PCHL (R247). -/
def execPchl (s : State) : Result := jumpTo s.hl s

/-- JPE a16 (R241). -/
def execJpe (a16 : Word) (s : State) : Result := jumpIf .pe a16 s

/-- CPE a16 (R243). -/
def execCpe (a16 : Word) (s : State) : Result := callIf .pe a16 s

/-- RST 5 (R246). -/
def execRst5 (s : State) : Result := restart 5 s

/-- RP (R245). -/
def execRp (s : State) : Result := returnIf .p s

/-- JP a16 (R241). -/
def execJp (a16 : Word) (s : State) : Result := jumpIf .p a16 s

/-- CP a16 (R243). -/
def execCp (a16 : Word) (s : State) : Result := callIf .p a16 s

/-- RST 6 (R246). -/
def execRst6 (s : State) : Result := restart 6 s

/-- RM (R245). -/
def execRm (s : State) : Result := returnIf .m s

/-- JM a16 (R241). -/
def execJm (a16 : Word) (s : State) : Result := jumpIf .m a16 s

/-- CM a16 (R243). -/
def execCm (a16 : Word) (s : State) : Result := callIf .m a16 s

/-- RST 7 (R246). -/
def execRst7 (s : State) : Result := restart 7 s

end Sys2Proof.Machine
end

