-- ==== Sys2Proof/Machine/DataTransfer.lean ====
section
/-!
DEFINITION. The meanings of the data transfer instructions (40_data_transfer.md R100 to R112). None writes a flag.
-/

namespace Sys2Proof.Machine

/-! ## Shared operations -/

/-- `x[d] <- x[src]` (R100). -/
def movReg (dst src : Reg) (s : State) : Result := .next (s.setReg dst (s.reg src))

/-- `x[d] <- MemRead(pair(H), 1)` (R101): the address is taken before H or L is overwritten. -/
def movFromMem (dst : Reg) (s : State) : Result := src8 .m s fun v => .next (s.setReg dst v)

/-- `MemWrite(pair(H), 1, v)` (R102, R104). -/
def storeByteAtHL (v : Byte) (s : State) : Result := dst8 .m s v

/-- `MemWrite(pair(H), 1, x[src])` (R102). -/
def movToMem (src : Reg) (s : State) : Result := storeByteAtHL (s.reg src) s

/-- `x[d] <- d8` (R103). -/
def loadImmediate (dst : Reg) (v : Byte) (s : State) : Result := .next (s.setReg dst v)

/-- `pair(rp) <- d16` (R105). -/
def loadPair (p : PairSP) (w : Word) (s : State) : Result := .next (s.setPairSP p w)

/-- `x[A] <- MemRead(a, 1)` (R106, R110). -/
def loadAccumulator (a : Word) (s : State) : Result := memRead s a fun v => .next (s.setReg .a v)

/-- `MemWrite(a, 1, x[A])` (R107, R111). -/
def storeAccumulator (a : Word) (s : State) : Result := memWrite s a (s.reg .a) .next

/-- `x[L] <- MemRead(a, 1); x[H] <- MemRead(a +16 1, 1)` (R108). -/
def loadHLDirect (a : Word) (s : State) : Result :=
  settlePartial s <|
    memRead s a fun lb =>
      memRead (s.setReg .l lb) (a + 1#16) fun hb => .next ((s.setReg .l lb).setReg .h hb)

/-- `MemWrite(a, 1, x[L]); MemWrite(a +16 1, 1, x[H])` (R109). -/
def storeHLDirect (a : Word) (s : State) : Result :=
  settlePartial s <|
    memWrite s a (s.reg .l) fun s1 => memWrite s1 (a + 1#16) (s.reg .h) .next

/-- `t <- pair(H); pair(H) <- pair(D); pair(D) <- t` (R112). -/
def exchangeDEHL (s : State) : Result := .next ((s.setPair .h (s.pair .d)).setPair .d (s.pair .h))

/-! ## One meaning for each row -/

/-- LXI B,d16 (R105). -/
def execLxiB (d16 : Word) (s : State) : Result := loadPair (.rp .b) d16 s

/-- STAX B (R111). -/
def execStaxB (s : State) : Result := storeAccumulator (s.pair .b) s

/-- MVI B,d8 (R103). -/
def execMviB (d8 : Byte) (s : State) : Result := loadImmediate .b d8 s

/-- LDAX B (R110). -/
def execLdaxB (s : State) : Result := loadAccumulator (s.pair .b) s

/-- MVI C,d8 (R103). -/
def execMviC (d8 : Byte) (s : State) : Result := loadImmediate .c d8 s

/-- LXI D,d16 (R105). -/
def execLxiD (d16 : Word) (s : State) : Result := loadPair (.rp .d) d16 s

/-- STAX D (R111). -/
def execStaxD (s : State) : Result := storeAccumulator (s.pair .d) s

/-- MVI D,d8 (R103). -/
def execMviD (d8 : Byte) (s : State) : Result := loadImmediate .d d8 s

/-- LDAX D (R110). -/
def execLdaxD (s : State) : Result := loadAccumulator (s.pair .d) s

/-- MVI E,d8 (R103). -/
def execMviE (d8 : Byte) (s : State) : Result := loadImmediate .e d8 s

/-- LXI H,d16 (R105). -/
def execLxiH (d16 : Word) (s : State) : Result := loadPair (.rp .h) d16 s

/-- SHLD a16 (R109). -/
def execShld (a16 : Word) (s : State) : Result := storeHLDirect a16 s

/-- MVI H,d8 (R103). -/
def execMviH (d8 : Byte) (s : State) : Result := loadImmediate .h d8 s

/-- LHLD a16 (R108). -/
def execLhld (a16 : Word) (s : State) : Result := loadHLDirect a16 s

/-- MVI L,d8 (R103). -/
def execMviL (d8 : Byte) (s : State) : Result := loadImmediate .l d8 s

/-- LXI SP,d16 (R105). -/
def execLxiSP (d16 : Word) (s : State) : Result := loadPair .sp d16 s

/-- STA a16 (R107). -/
def execSta (a16 : Word) (s : State) : Result := storeAccumulator a16 s

/-- MVI M,d8 (R104). -/
def execMviM (d8 : Byte) (s : State) : Result := storeByteAtHL d8 s

/-- LDA a16 (R106). -/
def execLda (a16 : Word) (s : State) : Result := loadAccumulator a16 s

/-- MVI A,d8 (R103). -/
def execMviA (d8 : Byte) (s : State) : Result := loadImmediate .a d8 s

/-- MOV B,B (R100). -/
def execMovBB (s : State) : Result := movReg .b .b s

/-- MOV B,C (R100). -/
def execMovBC (s : State) : Result := movReg .b .c s

/-- MOV B,D (R100). -/
def execMovBD (s : State) : Result := movReg .b .d s

/-- MOV B,E (R100). -/
def execMovBE (s : State) : Result := movReg .b .e s

/-- MOV B,H (R100). -/
def execMovBH (s : State) : Result := movReg .b .h s

/-- MOV B,L (R100). -/
def execMovBL (s : State) : Result := movReg .b .l s

/-- MOV B,M (R101). -/
def execMovBM (s : State) : Result := movFromMem .b s

/-- MOV B,A (R100). -/
def execMovBA (s : State) : Result := movReg .b .a s

/-- MOV C,B (R100). -/
def execMovCB (s : State) : Result := movReg .c .b s

/-- MOV C,C (R100). -/
def execMovCC (s : State) : Result := movReg .c .c s

/-- MOV C,D (R100). -/
def execMovCD (s : State) : Result := movReg .c .d s

/-- MOV C,E (R100). -/
def execMovCE (s : State) : Result := movReg .c .e s

/-- MOV C,H (R100). -/
def execMovCH (s : State) : Result := movReg .c .h s

/-- MOV C,L (R100). -/
def execMovCL (s : State) : Result := movReg .c .l s

/-- MOV C,M (R101). -/
def execMovCM (s : State) : Result := movFromMem .c s

/-- MOV C,A (R100). -/
def execMovCA (s : State) : Result := movReg .c .a s

/-- MOV D,B (R100). -/
def execMovDB (s : State) : Result := movReg .d .b s

/-- MOV D,C (R100). -/
def execMovDC (s : State) : Result := movReg .d .c s

/-- MOV D,D (R100). -/
def execMovDD (s : State) : Result := movReg .d .d s

/-- MOV D,E (R100). -/
def execMovDE (s : State) : Result := movReg .d .e s

/-- MOV D,H (R100). -/
def execMovDH (s : State) : Result := movReg .d .h s

/-- MOV D,L (R100). -/
def execMovDL (s : State) : Result := movReg .d .l s

/-- MOV D,M (R101). -/
def execMovDM (s : State) : Result := movFromMem .d s

/-- MOV D,A (R100). -/
def execMovDA (s : State) : Result := movReg .d .a s

/-- MOV E,B (R100). -/
def execMovEB (s : State) : Result := movReg .e .b s

/-- MOV E,C (R100). -/
def execMovEC (s : State) : Result := movReg .e .c s

/-- MOV E,D (R100). -/
def execMovED (s : State) : Result := movReg .e .d s

/-- MOV E,E (R100). -/
def execMovEE (s : State) : Result := movReg .e .e s

/-- MOV E,H (R100). -/
def execMovEH (s : State) : Result := movReg .e .h s

/-- MOV E,L (R100). -/
def execMovEL (s : State) : Result := movReg .e .l s

/-- MOV E,M (R101). -/
def execMovEM (s : State) : Result := movFromMem .e s

/-- MOV E,A (R100). -/
def execMovEA (s : State) : Result := movReg .e .a s

/-- MOV H,B (R100). -/
def execMovHB (s : State) : Result := movReg .h .b s

/-- MOV H,C (R100). -/
def execMovHC (s : State) : Result := movReg .h .c s

/-- MOV H,D (R100). -/
def execMovHD (s : State) : Result := movReg .h .d s

/-- MOV H,E (R100). -/
def execMovHE (s : State) : Result := movReg .h .e s

/-- MOV H,H (R100). -/
def execMovHH (s : State) : Result := movReg .h .h s

/-- MOV H,L (R100). -/
def execMovHL (s : State) : Result := movReg .h .l s

/-- MOV H,M (R101). -/
def execMovHM (s : State) : Result := movFromMem .h s

/-- MOV H,A (R100). -/
def execMovHA (s : State) : Result := movReg .h .a s

/-- MOV L,B (R100). -/
def execMovLB (s : State) : Result := movReg .l .b s

/-- MOV L,C (R100). -/
def execMovLC (s : State) : Result := movReg .l .c s

/-- MOV L,D (R100). -/
def execMovLD (s : State) : Result := movReg .l .d s

/-- MOV L,E (R100). -/
def execMovLE (s : State) : Result := movReg .l .e s

/-- MOV L,H (R100). -/
def execMovLH (s : State) : Result := movReg .l .h s

/-- MOV L,L (R100). -/
def execMovLL (s : State) : Result := movReg .l .l s

/-- MOV L,M (R101). -/
def execMovLM (s : State) : Result := movFromMem .l s

/-- MOV L,A (R100). -/
def execMovLA (s : State) : Result := movReg .l .a s

/-- MOV M,B (R102). -/
def execMovMB (s : State) : Result := movToMem .b s

/-- MOV M,C (R102). -/
def execMovMC (s : State) : Result := movToMem .c s

/-- MOV M,D (R102). -/
def execMovMD (s : State) : Result := movToMem .d s

/-- MOV M,E (R102). -/
def execMovME (s : State) : Result := movToMem .e s

/-- MOV M,H (R102). -/
def execMovMH (s : State) : Result := movToMem .h s

/-- MOV M,L (R102). -/
def execMovML (s : State) : Result := movToMem .l s

/-- MOV M,A (R102). -/
def execMovMA (s : State) : Result := movToMem .a s

/-- MOV A,B (R100). -/
def execMovAB (s : State) : Result := movReg .a .b s

/-- MOV A,C (R100). -/
def execMovAC (s : State) : Result := movReg .a .c s

/-- MOV A,D (R100). -/
def execMovAD (s : State) : Result := movReg .a .d s

/-- MOV A,E (R100). -/
def execMovAE (s : State) : Result := movReg .a .e s

/-- MOV A,H (R100). -/
def execMovAH (s : State) : Result := movReg .a .h s

/-- MOV A,L (R100). -/
def execMovAL (s : State) : Result := movReg .a .l s

/-- MOV A,M (R101). -/
def execMovAM (s : State) : Result := movFromMem .a s

/-- MOV A,A (R100). -/
def execMovAA (s : State) : Result := movReg .a .a s

/-- XCHG (R112). -/
def execXchg (s : State) : Result := exchangeDEHL s

end Sys2Proof.Machine
end

