-- ==== Sys2Proof/Machine/Logical.lean ====
section
/-!
DEFINITION. The meanings of the logical, compare, rotate and carry instructions (42_logical_rotate.md R180 to R194).
-/

namespace Sys2Proof.Machine

/-! ## Shared operations -/

/-- Store a logical result, with S, Z and P from it, AC as given and F.C cleared (R180 to R185). -/
def logicalResult (r : Byte) (ac : Bool) (s : State) : State :=
  { s.setReg .a r with flags := ((s.flags.szp r).withAC ac).withC false }

/-- ANA, ANI (R180, R181). -/
def andWith (v : Byte) (s : State) : State := logicalResult (s.reg .a &&& v) true s

/-- XRA, XRI (R182, R183). -/
def xorWith (v : Byte) (s : State) : State := logicalResult (s.reg .a ^^^ v) false s

/-- ORA, ORI (R184, R185). -/
def orWith (v : Byte) (s : State) : State := logicalResult (s.reg .a ||| v) false s

/-- CMP, CPI (R186, R187): flags only. -/
def compareWith (v : Byte) (s : State) : State := { s with flags := subtractFlags s.flags (s.reg .a) v 0 }

/-- Store a rotated accumulator and the bit rotated out (R188 to R191). -/
def rotated (r : Byte) (out : Bool) (s : State) : Result :=
  .next { s.setReg .a r with flags := s.flags.withC out }

/-- A bit as a byte, at bit 0. -/
def bitByte (x : Bool) : Byte := if x then 1#8 else 0#8

/-- RLC (R188). -/
def rotateLeft (s : State) : Result :=
  let x := s.reg .a
  rotated (x <<< 1 ||| bitByte (x.getLsbD 7)) (x.getLsbD 7) s

/-- RRC (R189). -/
def rotateRight (s : State) : Result :=
  let x := s.reg .a
  rotated (x >>> 1 ||| bitByte (x.getLsbD 0) <<< 7) (x.getLsbD 0) s

/-- RAL (R190). -/
def rotateLeftThroughCarry (s : State) : Result :=
  let x := s.reg .a
  rotated (x <<< 1 ||| bitByte s.flags.c) (x.getLsbD 7) s

/-- RAR (R191). -/
def rotateRightThroughCarry (s : State) : Result :=
  let x := s.reg .a
  rotated (x >>> 1 ||| bitByte s.flags.c <<< 7) (x.getLsbD 0) s

/-- CMA (R192). -/
def complementAccumulator (s : State) : Result := .next (s.setReg .a (~~~(s.reg .a)))

/-- STC (R193). -/
def setCarry (s : State) : Result := .next { s with flags := s.flags.withC true }

/-- CMC (R194). -/
def complementCarry (s : State) : Result := .next { s with flags := s.flags.withC (!s.flags.c) }

/-! ## One meaning for each row -/

/-- RLC (R188). -/
def execRlc (s : State) : Result := rotateLeft s

/-- RRC (R189). -/
def execRrc (s : State) : Result := rotateRight s

/-- RAL (R190). -/
def execRal (s : State) : Result := rotateLeftThroughCarry s

/-- RAR (R191). -/
def execRar (s : State) : Result := rotateRightThroughCarry s

/-- CMA (R192). -/
def execCma (s : State) : Result := complementAccumulator s

/-- STC (R193). -/
def execStc (s : State) : Result := setCarry s

/-- CMC (R194). -/
def execCmc (s : State) : Result := complementCarry s

/-- ANA B (R180). -/
def execAnaB (s : State) : Result := withOperand (.reg .b) s andWith

/-- ANA C (R180). -/
def execAnaC (s : State) : Result := withOperand (.reg .c) s andWith

/-- ANA D (R180). -/
def execAnaD (s : State) : Result := withOperand (.reg .d) s andWith

/-- ANA E (R180). -/
def execAnaE (s : State) : Result := withOperand (.reg .e) s andWith

/-- ANA H (R180). -/
def execAnaH (s : State) : Result := withOperand (.reg .h) s andWith

/-- ANA L (R180). -/
def execAnaL (s : State) : Result := withOperand (.reg .l) s andWith

/-- ANA M (R180). -/
def execAnaM (s : State) : Result := withOperand .m s andWith

/-- ANA A (R180). -/
def execAnaA (s : State) : Result := withOperand (.reg .a) s andWith

/-- XRA B (R182). -/
def execXraB (s : State) : Result := withOperand (.reg .b) s xorWith

/-- XRA C (R182). -/
def execXraC (s : State) : Result := withOperand (.reg .c) s xorWith

/-- XRA D (R182). -/
def execXraD (s : State) : Result := withOperand (.reg .d) s xorWith

/-- XRA E (R182). -/
def execXraE (s : State) : Result := withOperand (.reg .e) s xorWith

/-- XRA H (R182). -/
def execXraH (s : State) : Result := withOperand (.reg .h) s xorWith

/-- XRA L (R182). -/
def execXraL (s : State) : Result := withOperand (.reg .l) s xorWith

/-- XRA M (R182). -/
def execXraM (s : State) : Result := withOperand .m s xorWith

/-- XRA A (R182). -/
def execXraA (s : State) : Result := withOperand (.reg .a) s xorWith

/-- ORA B (R184). -/
def execOraB (s : State) : Result := withOperand (.reg .b) s orWith

/-- ORA C (R184). -/
def execOraC (s : State) : Result := withOperand (.reg .c) s orWith

/-- ORA D (R184). -/
def execOraD (s : State) : Result := withOperand (.reg .d) s orWith

/-- ORA E (R184). -/
def execOraE (s : State) : Result := withOperand (.reg .e) s orWith

/-- ORA H (R184). -/
def execOraH (s : State) : Result := withOperand (.reg .h) s orWith

/-- ORA L (R184). -/
def execOraL (s : State) : Result := withOperand (.reg .l) s orWith

/-- ORA M (R184). -/
def execOraM (s : State) : Result := withOperand .m s orWith

/-- ORA A (R184). -/
def execOraA (s : State) : Result := withOperand (.reg .a) s orWith

/-- CMP B (R186). -/
def execCmpB (s : State) : Result := withOperand (.reg .b) s compareWith

/-- CMP C (R186). -/
def execCmpC (s : State) : Result := withOperand (.reg .c) s compareWith

/-- CMP D (R186). -/
def execCmpD (s : State) : Result := withOperand (.reg .d) s compareWith

/-- CMP E (R186). -/
def execCmpE (s : State) : Result := withOperand (.reg .e) s compareWith

/-- CMP H (R186). -/
def execCmpH (s : State) : Result := withOperand (.reg .h) s compareWith

/-- CMP L (R186). -/
def execCmpL (s : State) : Result := withOperand (.reg .l) s compareWith

/-- CMP M (R186). -/
def execCmpM (s : State) : Result := withOperand .m s compareWith

/-- CMP A (R186). -/
def execCmpA (s : State) : Result := withOperand (.reg .a) s compareWith

/-- ANI d8 (R181). -/
def execAni (d8 : Byte) (s : State) : Result := .next (andWith d8 s)

/-- XRI d8 (R183). -/
def execXri (d8 : Byte) (s : State) : Result := .next (xorWith d8 s)

/-- ORI d8 (R185). -/
def execOri (d8 : Byte) (s : State) : Result := .next (orWith d8 s)

/-- CPI d8 (R187). -/
def execCpi (d8 : Byte) (s : State) : Result := .next (compareWith d8 s)

end Sys2Proof.Machine
end

