-- ==== Sys2Proof/Machine/MachineControl.lean ====
section
/-!
DEFINITION. The meanings of the machine control and I/O instructions (45_machine_control.md R260 to R268).
-/

namespace Sys2Proof.Machine

/-! ## Shared operations -/

/-- NOP (R261). -/
def noOperation (s : State) : Result := .next s

/-- HLT (R262): `emit Halted`, and nothing else changes. -/
def halt (s : State) : Result := .next (s.emit .halted)

/-- EI (R263): bit 3 set under both values of IM_MODEL. -/
def enableInterrupts (s : State) : Result := .next (s.writeIm (s.readIm ||| 0x08#8))

/-- DI (R264): bit 3 cleared under both values of IM_MODEL. -/
def disableInterrupts (s : State) : Result := .next (s.writeIm (s.readIm &&& 0xF7#8))

/-- SIM under IM_MODEL `standard8085` (R265): `im[2:0] <- x[A][2:0]` when `x[A][3]`. -/
def setMaskStandard (s : State) : State :=
  if (s.reg .a).getLsbD 3 then s.writeIm ((s.readIm &&& 0xF8#8) ||| (s.reg .a &&& 0x07#8)) else s

/-- SIM (R265). -/
def setInterruptMask (s : State) : Result :=
  match s.params.imModel with
  | .literal => .next (s.writeIm (s.reg .a))
  | .standard8085 => .next (setMaskStandard s)

/-- RIM (R268). -/
def readInterruptMask (s : State) : Result := .next (s.setReg .a s.readIm)

/-- IN (R266): the draw goes to the accumulator. -/
def inputFrom (port : Byte) (s : State) : Result := drawIoIn port s fun v s1 => .next (s1.setReg .a v)

/-- OUT (R267): `emit IoOut(port, x[A])`. -/
def outputTo (port : Byte) (s : State) : Result := .next (s.emit (.ioOut port (s.reg .a)))

/-! ## One meaning for each row -/

/-- NOP (R261). -/
def execNop (s : State) : Result := noOperation s

/-- RIM (R268). -/
def execRim (s : State) : Result := readInterruptMask s

/-- SIM (R265). -/
def execSim (s : State) : Result := setInterruptMask s

/-- HLT (R262). -/
def execHlt (s : State) : Result := halt s

/-- OUT d8 (R267). -/
def execOutPort (d8 : Byte) (s : State) : Result := outputTo d8 s

/-- IN d8 (R266). -/
def execInPort (d8 : Byte) (s : State) : Result := inputFrom d8 s

/-- DI (R264). -/
def execDi (s : State) : Result := disableInterrupts s

/-- EI (R263). -/
def execEi (s : State) : Result := enableInterrupts s

end Sys2Proof.Machine
end

