-- ==== Sys2Proof/Machine/Stack.lean ====
section
/-!
DEFINITION. The meanings of the stack instructions (43_stack.md R220 to R226).
-/

namespace Sys2Proof.Machine

/-! ## Shared operations -/

/-- POP (R222, R223): both bytes are read and sp moved before the pair is written. -/
def popInto (p : PairPSW) (s : State) : Result := pop s fun w s1 => .next (s1.setPairPSW p w)

/-- XTHL (R224): H with the byte at sp, L with the byte at sp + 1. -/
def exchangeTopHL (s : State) : Result :=
  stackRead s fun w =>
    memWrite s s.sp (s.reg .h) fun s1 =>
      memWrite s1 (s.sp + 1#16) (s.reg .l) fun s2 => .next (s2.setPair .h w)

/-- SPHL (R225). -/
def loadSPFromHL (s : State) : Result := .next { s with sp := s.hl }

/-! ## One meaning for each row -/

/-- POP B (R222). -/
def execPopB (s : State) : Result := popInto (.rp .b) s

/-- PUSH B (R220). -/
def execPushB (s : State) : Result := push (s.pairPSW (.rp .b)) s

/-- POP D (R222). -/
def execPopD (s : State) : Result := popInto (.rp .d) s

/-- PUSH D (R220). -/
def execPushD (s : State) : Result := push (s.pairPSW (.rp .d)) s

/-- POP H (R222). -/
def execPopH (s : State) : Result := popInto (.rp .h) s

/-- XTHL (R224). -/
def execXthl (s : State) : Result := exchangeTopHL s

/-- PUSH H (R220). -/
def execPushH (s : State) : Result := push (s.pairPSW (.rp .h)) s

/-- POP PSW (R223). -/
def execPopPSW (s : State) : Result := popInto .psw s

/-- PUSH PSW (R221). -/
def execPushPSW (s : State) : Result := push (s.pairPSW .psw) s

/-- SPHL (R225). -/
def execSphl (s : State) : Result := loadSPFromHL s

end Sys2Proof.Machine
end

