-- ==== Sys2Proof/Machine/Fetch.lean ====
section
/-!
DEFINITION. Fetching an instruction's bytes at pc (30_encoding.md R83, R85) and the helpers that lay bytes out at pc.
-/

namespace Sys2Proof.Machine

/-- The fetch and lookup of R83: the opcode, the catalog entry, then the operand bytes, low byte first; then `k` with the
instruction and the state whose pc is past it. An operand fetch that fails leaves pc where the last of the earlier fetches
to have taken effect had moved it, if any (60_exceptions.md R302, notes/assumptions/12.md). -/
def fetchInstr (s : State) (k : Instr → State → Result) : Result :=
  fetch8 s fun op s1 =>
    let pc1 := partialPc s1 .opcodeFetch s.pc s1.pc
    match catalogByByte s.params.catalogExtent op with
    | none => raiseUnknownOpcode op s.pc s1
    | some (.plain i) => k i s1
    | some (.data8 f) => fetchOperand s1 pc1 fun d8 s2 => k (f d8) s2
    | some (.data16 f) =>
      fetchOperand s1 pc1 fun lo s2 =>
        fetchOperand s2 (partialPc s2 .operandFetch pc1 s2.pc) fun hi s3 => k (f (joinBytes hi lo)) s3

/-- The `n` bytes from `a` upward, wrapping at the top of the address space (R85). -/
def State.bytesAt (s : State) (a : Word) : Nat → List Byte
  | 0 => []
  | n + 1 => s.byteAt a :: s.bytesAt (a + 1#16) n

/-- The `n` addresses from `a` upward are present. -/
def State.presentFrom (s : State) (a : Word) : Nat → Bool
  | 0 => true
  | n + 1 => s.present a && s.presentFrom (a + 1#16) n

/-- Store bytes from `a` upward, wrapping, with no MEM_SIZE check. -/
def State.storeBytes (s : State) (a : Word) : List Byte → State
  | [] => s
  | v :: vs => (s.setByte a v).storeBytes (a + 1#16) vs

end Sys2Proof.Machine
end

