-- ==== Sys2Proof/Machine/Step.lean ====
section
/-!
DEFINITION. One step (30_encoding.md R83, 70_reset_and_hazards.md R320), and the state in which the next step fetches a
given instruction.
-/

namespace Sys2Proof.Machine

/-- `step()`: no transition from a Faulted state (60_exceptions.md R304); else fetch, decode and execute one
instruction. -/
def step (s : State) : Host.Outcome State Fault Refusal :=
  if s.faulted then raiseAlreadyFaulted s.beginStep else fetchInstr s.beginStep exec

/-- `s` with the bytes of a word of table bits at pc, up to the longest instruction's three. -/
def State.withFetchWord (s : State) (nbits w : Nat) : State := s.storeBytes s.pc (tableBytes nbits w)

end Sys2Proof.Machine
end

