-- ==== Sys2Proof/Machine/HostInterface.lean ====
section
/-!
DEFINITION. What the host does between steps (70_reset_and_hazards.md R321 to R326), at the boundary that 00_scope.md
R4(f) puts in scope. `new` is `State.construct`.
-/

namespace Sys2Proof.Machine

/-- `setMemory(address, bytes...)` (R322); refused when it would write at an address not below MEM_SIZE. The spec does
not name a load of no bytes: from MEM_SIZE or below it changes nothing, from above it is refused (DESIGN CHOICE,
notes/assumptions/25.md). -/
def setMemory (a : Word) (bytes : List Byte) (s : State) : Option State :=
  if a.toNat + bytes.length ≤ s.params.memSize then some (s.storeBytes a bytes) else none

/-- What the host reaches by index (R325). -/
inductive HostIndex where
  | register (r : Reg)
  | flag (f : FlagName)
  | memory (a : Word)
  | programCounter
  | stackPointer
  | interruptMask
deriving DecidableEq, Repr

/-- Indexed read (R325). A flag reads as 0 or 1; an absent byte of memory has no value. -/
def hostRead (s : State) : HostIndex → Option Nat
  | .register r => some (s.reg r).toNat
  | .flag f => some (s.flags.get f).toNat
  | .memory a => if s.present a then some (s.byteAt a).toNat else none
  | .programCounter => some s.pc.toNat
  | .stackPointer => some s.sp.toNat
  | .interruptMask => some s.readIm.toNat

/-- Indexed write (R325), of a value taken modulo the width written. -/
def hostWrite (s : State) (x : HostIndex) (v : Nat) : Option State :=
  match x with
  | .register r => some (s.setReg r (BitVec.ofNat 8 v))
  | .flag f => some { s with flags := s.flags.set f (v % 2 == 1) }
  | .memory a => if s.present a then some (s.setByte a (BitVec.ofNat 8 v)) else none
  | .programCounter => some { s with pc := BitVec.ofNat 16 v }
  | .stackPointer => some { s with sp := BitVec.ofNat 16 v }
  | .interruptMask => some (s.writeIm (BitVec.ofNat 8 v))

/-- How `run()` stops (R324), or that it is still running after the steps it was given. -/
inductive RunEnd where
  | atHalt (s : State)
  | pastEnd (s : State)
  | failed (f : Fault)
  | refused (r : Refusal)
  | running (s : State)
deriving DecidableEq, Repr

/-- `run()` (R324): the two tests are made before each step. The engine has no bound, so the first argument counts the
rounds of the loop that are looked at. Called on a Faulted engine it makes the same two tests first, so that it stops at a
HLT opcode under pc without a step; the spec does not name this case (DESIGN CHOICE, notes/assumptions/23.md), and
`RunEnd.verdict` does not call that end good. -/
def run : Nat → State → RunEnd
  | 0, s => .running s
  | n + 1, s =>
    if s.present s.pc = false then .pastEnd s
    else if s.byteAt s.pc = 0x76#8 then .atHalt s
    else
      match step s with
      | .next t => run n t
      | .fault f => .failed f
      | .refused r => .refused r

end Sys2Proof.Machine
end

