-- ==== Sys2Proof/Safety.lean ====
section
/-!
DEFINITION. What a safe run is, and the words the statements use: the end of a run (70_reset_and_hazards.md R327), the
invariant that every step keeps, and what an instruction leaves unchanged.
-/

namespace Sys2Proof.Machine

/-! ## The end of a run -/

/-- R327: good, bad, or no verdict. -/
inductive Verdict where
  | good
  | bad
  | noVerdict
deriving DecidableEq, Repr

/-- The verdict on a run driven by `run()`. A HLT opcode under pc is a good end unless the engine is Faulted, which is
never one (R327, D14); that such an end is bad is the model's own choice (DESIGN CHOICE, notes/assumptions/23.md). -/
def RunEnd.verdict : RunEnd → Verdict
  | .atHalt s => if s.faulted then .bad else .good
  | .pastEnd _ => .noVerdict
  | .failed _ => .bad
  | .refused _ => .noVerdict
  | .running _ => .noVerdict

/-- Single-stepping ends well after a step that emits Halted. -/
def endsWell (r : Result) : Bool :=
  match r with
  | .next t => t.events.contains .halted
  | .fault _ => false
  | .refused _ => false

/-! ## The invariant -/

/-- Memory is canonical and lists only present addresses; the parameters are legal; the hard-wired bits of `im` are 0
(10_state.md R35); the engine is not Faulted. -/
abbrev Inv (s : State) : Prop :=
  s.mem.wf = true ∧ s.mem.below s.params.memSize = true ∧ s.params.wellFormed = true ∧
    s.im &&& ~~~(imImplemented s.params.imModel) = 0#8 ∧ s.faulted = false

/-! ## Operands -/

/-- The byte operand `o` names. -/
def State.operand (s : State) : Operand8 → Byte
  | .reg r => s.reg r
  | .m => s.byteAt s.hl

/-- Operand `o` can be accessed: a register always, M when H:L is a present address. -/
def State.operandPresent (s : State) : Operand8 → Bool
  | .reg _ => true
  | .m => s.present s.hl

/-- The register that a write of operand `o` changes. -/
def operandRegs : Operand8 → List Reg
  | .reg r => [r]
  | .m => []

/-- The address that a write of operand `o` stores to. -/
def State.operandAddress (s : State) : Operand8 → List Word
  | .reg _ => []
  | .m => [s.hl]

/-- The two registers of a pair. -/
def pairRegs (p : Pair) : List Reg := [pairHigh p, pairLow p]

/-! ## Flags of a result -/

/-- An even number of the eight bits is set. -/
def evenParity (v : Byte) : Bool :=
  !(v.getLsbD 0 ^^ v.getLsbD 1 ^^ v.getLsbD 2 ^^ v.getLsbD 3 ^^
    v.getLsbD 4 ^^ v.getLsbD 5 ^^ v.getLsbD 6 ^^ v.getLsbD 7)

/-- S, Z and P are those of the result `r`. -/
def szpOf (r : Byte) (f : Flags) : Prop :=
  f.s = decide (128 ≤ r.toNat) ∧ f.z = decide (r.toNat = 0) ∧ f.p = evenParity r

/-! ## What stays unchanged -/

def keepsRegs (except : List Reg) (s t : State) : Prop := ∀ r, r ∉ except → t.reg r = s.reg r

def keepsFlags (except : List FlagName) (s t : State) : Prop := ∀ f, f ∉ except → t.flags.get f = s.flags.get f

def keepsMemory (except : List Word) (s t : State) : Prop := ∀ a, a ∉ except → t.byteAt a = s.byteAt a

/-- The interrupt mask, the Faulted mark, the step's events, the count of draws and the parameters. -/
def keepsControl (s t : State) : Prop :=
  t.im = s.im ∧ t.faulted = s.faulted ∧ t.events = s.events ∧ t.draws = s.draws ∧ t.params = s.params

/-- All of the above, less the registers, flags and addresses named. -/
def keepsBut (regs : List Reg) (flags : List FlagName) (stores : List Word) (s t : State) : Prop :=
  keepsRegs regs s t ∧ keepsFlags flags s t ∧ keepsMemory stores s t ∧ keepsControl s t

/-- The access at `a` ends the instruction with MemoryOutOfRange, and the engine is Faulted (60_exceptions.md R302). -/
def failsAt (r : Result) (a : Word) : Prop :=
  ∃ after, r = .fault (.memoryOutOfRange a after) ∧ after.faulted = true

/-- Change every state of an outcome. -/
def onStates (f : State → State) : Result → Result
  | .next t => .next (f t)
  | .fault (.unknownOpcode op a t) => .fault (.unknownOpcode op a (f t))
  | .fault (.memoryOutOfRange a t) => .fault (.memoryOutOfRange a (f t))
  | .fault (.alreadyFaulted t) => .fault (.alreadyFaulted (f t))
  | .refused x => .refused x

/-- The opcode byte of an instruction. -/
def opcodeOf (i : Instr) : Byte := (encode i).headD 0x00#8

end Sys2Proof.Machine
end

