-- ==== Sys2Proof/Certificates/Slice0/Obligations.lean ====
section
/-!
DEFINITION. The statements for the provers. `exec` runs after the fetch, so `s.pc` is the address of the next
instruction in every statement about `exec` (00_scope.md R14, 10_state.md R28). A statement of an instruction says its
opcode bytes, its result, what it leaves unchanged, and where a form fails.
-/

open Sys2Proof Sys2Proof.Machine

/-! ## Encoding -/

/-- The ten opcode bytes of the source document and others written out from 30_encoding.md R81 (those others are from
general knowledge, the spec's own decision D2). -/
def Obligations.DecodeReadsWordsOfTheSpec : Prop :=
  decode .full [0x21#8, 0x05#8, 0x30#8] = .ok (.lxiH 0x3005#16, []) ∧
  decode .full [0x7E#8] = .ok (.movAM, []) ∧
  decode .full [0x23#8] = .ok (.inxH, []) ∧
  decode .full [0x86#8] = .ok (.addM, []) ∧
  decode .full [0x77#8] = .ok (.movMA, []) ∧
  decode .full [0x76#8] = .ok (.hlt, []) ∧
  decode .full [0x3A#8, 0x00#8, 0x50#8] = .ok (.lda 0x5000#16, []) ∧
  decode .full [0x47#8] = .ok (.movBA, []) ∧
  decode .full [0x32#8, 0x00#8, 0x60#8, 0x76#8] = .ok (.sta 0x6000#16, [0x76#8]) ∧
  decode .full [0x78#8] = .ok (.movAB, []) ∧
  decode .full [0xF5#8] = .ok (.pushPSW, []) ∧
  decode .full [0xC2#8, 0x05#8, 0x04#8] = .ok (.jnz 0x0405#16, []) ∧
  decode .full [0xDB#8, 0x01#8] = .ok (.inPort 0x01#8, [])

/-- The opcode map of R82 is the expansion of the descriptors of R81 by the formulas of R74 to R79, which gives 246 entries
with 246 opcode bytes (R73). Most base codes are from general knowledge (the spec's own decision D2). -/
def Obligations.OpcodeMapIsDescriptorExpansion : Prop :=
  (∀ op : Byte, catalogByByte .full op = (catalogEntries.find? fun e => e.1 == op).map Prod.snd) ∧
  (catalogEntries.map Prod.fst).Nodup ∧ catalogEntries.length = 246

/-- R86: the unpopulated bytes are refused by name, under each CATALOG_EXTENT, and no other byte is. The spec takes the
set from general knowledge (92_eei_decisions.md D1, D24). -/
def Obligations.UnpopulatedBytesAreRefused : Prop :=
  ∀ (ext : CatalogExtent) (op : Byte) (rest : List Byte),
    decode ext (op :: rest) = .error (.unknownOpcode op) ↔
      op ∈ [0x08#8, 0x10#8, 0x18#8, 0x28#8, 0x38#8, 0xCB#8, 0xD9#8, 0xDD#8, 0xED#8, 0xFD#8] ∨
        (ext = .docNamed ∧ op ∈ [0x2F#8, 0x37#8, 0x3F#8])

/-- Decoding the encoding of a well-formed instruction gives it back, whatever follows it. -/
def Obligations.DecodeInvertsEncode : Prop :=
  ∀ (ext : CatalogExtent) (i : Instr) (rest : List Byte),
    i.wellFormed ext = true → decode ext (encode i ++ rest) = .ok (i, rest)

/-- What decodes is the encoding of a well-formed instruction followed by the rest. -/
def Obligations.EncodeInvertsDecode : Prop :=
  ∀ (ext : CatalogExtent) (bytes rest : List Byte) (i : Instr),
    decode ext bytes = .ok (i, rest) → bytes = encode i ++ rest ∧ i.wellFormed ext = true

/-- R70, R87: an instruction is 1, 2 or 3 bytes, and its opcode byte alone tells which. -/
def Obligations.OpcodeByteDecidesLength : Prop :=
  ∀ (ext ext' : CatalogExtent) (op : Byte) (rest rest' tail tail' : List Byte) (i i' : Instr),
    decode ext (op :: rest) = .ok (i, tail) → decode ext' (op :: rest') = .ok (i', tail') →
      (encode i).length = (encode i').length ∧ 1 ≤ (encode i).length ∧ (encode i).length ≤ 3 ∧
        (op :: rest).length = (encode i).length + tail.length

/-! ## The step -/

/-- R83: when the bytes at pc decode to `i` and are present, a step is `exec i` with pc past them and no events yet. -/
def Obligations.StepRunsDecodedInstruction : Prop :=
  ∀ (s : State) (i : Instr) (tail : List Byte),
    s.faulted = false → decode s.params.catalogExtent (s.bytesAt s.pc 3) = .ok (i, tail) →
      s.presentFrom s.pc (encode i).length = true →
        step s = exec i { s with pc := s.pc + BitVec.ofNat 16 (encode i).length, events := [] }

/-- R301: an unpopulated opcode byte ends the step with UnknownOpcode, its byte and its address; pc is one past it, the
mark is set, and nothing else changes. The recorded address and the pc after are the spec's own decision D14. -/
def Obligations.StepFailsOnUnpopulatedOpcode : Prop :=
  ∀ s : State,
    s.faulted = false → s.present s.pc = true →
      catalogByByte s.params.catalogExtent (s.byteAt s.pc) = none →
        step s = .fault (.unknownOpcode (s.byteAt s.pc) s.pc
          { s with pc := s.pc + 1#16, faulted := true, events := [] })

/-- R304, R40: a step from a Faulted state changes nothing and fires no event; a step from any other state either
completes with the mark clear or fails with it set. The sticky mark is the spec's own decision D14. -/
def Obligations.FaultedStateHasNoTransition : Prop :=
  (∀ s : State, s.faulted = true → step s = .fault (.alreadyFaulted { s with events := [] })) ∧
    ∀ s : State, s.faulted = false →
      (∃ t, step s = .next t ∧ t.faulted = false) ∨
        (∃ op a t, step s = .fault (.unknownOpcode op a t) ∧ t.faulted = true) ∨
        (∃ a t, step s = .fault (.memoryOutOfRange a t) ∧ t.faulted = true)

/-- R85, R302, R303: a byte fetch at an absent address fails there: the opcode first, then the operand bytes in address
order (the spec's own decision D16). -/
def Obligations.FetchBeyondMemoryFails : Prop :=
  ∀ s : State, s.faulted = false →
    (s.present s.pc = false → failsAt (step s) s.pc) ∧
    (∀ f, s.present s.pc = true → s.present (s.pc + 1#16) = false →
      catalogByByte s.params.catalogExtent (s.byteAt s.pc) = some (.data8 f) → failsAt (step s) (s.pc + 1#16)) ∧
    (∀ f, s.present s.pc = true → s.present (s.pc + 1#16) = false →
      catalogByByte s.params.catalogExtent (s.byteAt s.pc) = some (.data16 f) → failsAt (step s) (s.pc + 1#16)) ∧
    (∀ f, s.present s.pc = true → s.present (s.pc + 1#16) = true → s.present (s.pc + 2#16) = false →
      catalogByByte s.params.catalogExtent (s.byteAt s.pc) = some (.data16 f) → failsAt (step s) (s.pc + 2#16))

/-- R59: with MEM_SIZE 65536 no step raises MemoryOutOfRange (the spec's own decision D16). -/
def Obligations.FullMemoryIsNeverOutOfRange : Prop :=
  ∀ (s t : State) (a : Word), s.params.memSize = 65536 → step s ≠ .fault (.memoryOutOfRange a t)

/-- With MEM_SIZE 65536 every instruction completes in every state, and no instruction changes a parameter or the
Faulted mark (R300, R301: an action never raises UnknownOpcode). -/
def Obligations.EveryInstructionCompletesInFullMemory : Prop :=
  ∀ (i : Instr) (s : State), s.params.memSize = 65536 →
    ∃ t, exec i s = .next t ∧ t.params = s.params ∧ t.faulted = s.faulted

/-- Every step that completes keeps the invariant and the parameters. -/
def Obligations.StepKeepsInvariant : Prop :=
  ∀ s t : State, Inv s → step s = .next t → Inv t ∧ t.params = s.params

/-- The invariant holds after construction with legal parameters, whatever RESET_STATE, if the mask's hard-wired bits
are 0 in it; and so it holds of the default engine. -/
def Obligations.ConstructionMeetsInvariant : Prop :=
  (∀ (p : Params) (r : ResetState), p.wellFormed = true → r.im &&& ~~~(imImplemented p.imModel) = 0#8 →
    Inv (State.construct p r)) ∧
  Inv State.reset

/-- R41, R321: what construction leaves. The values are the spec's own choice (92_eei_decisions.md D15, D17). -/
def Obligations.ResetLeavesTheDefaultState : Prop :=
  (∀ r : Reg, State.reset.reg r = 0x00#8) ∧ (∀ f : FlagName, State.reset.flags.get f = false) ∧
    State.reset.pc = 0x0000#16 ∧ State.reset.sp = 0x0000#16 ∧ State.reset.im = 0x00#8 ∧
    State.reset.faulted = false ∧ State.reset.params.memSize = 65536 ∧
    ∀ a : Word, State.reset.byteAt a = 0x00#8

/-! ## Rules about the whole machine -/

/-- R260. NOP, HLT, EI, DI, SIM, RIM, IN and OUT neither read nor write memory and write no flag; EI, DI, SIM and RIM
are the only instructions that touch `im`: another one leaves it and does the same whatever it holds; IN and OUT are the
only ones that reach the I/O space: another one makes no draw and emits no IoOut. -/
def Obligations.MachineControlTouchesOnlyItsState : Prop :=
  (∀ (i : Instr) (s : State) (m : Memory),
    opcodeOf i ∈ [0x00#8, 0x76#8, 0xFB#8, 0xF3#8, 0x30#8, 0x20#8, 0xDB#8, 0xD3#8] →
      exec i { s with mem := m } = onStates (fun t => { t with mem := m }) (exec i s) ∧
        ∃ t, exec i s = .next t ∧ t.mem = s.mem ∧ t.flags = s.flags) ∧
  (∀ (i : Instr) (s : State) (v : Byte), opcodeOf i ∉ [0xFB#8, 0xF3#8, 0x30#8, 0x20#8] →
    exec i { s with im := v } = onStates (fun t => { t with im := v }) (exec i s)) ∧
  (∀ (i : Instr) (s t : State), opcodeOf i ∉ [0xDB#8, 0xD3#8] → exec i s = .next t →
    t.draws = s.draws ∧ ∀ p v, Event.ioOut p v ∈ t.events → Event.ioOut p v ∈ s.events)

/-- R34, R306: the interrupt mask never influences execution. Two states that differ in it only take the same step, to
states that differ at most in it and, after RIM, in A. -/
def Obligations.InterruptMaskNeverSteersExecution : Prop :=
  ∀ (s t : State) (v : Byte), step s = .next t →
    ∃ t', step { s with im := v } = .next t' ∧ t'.pc = t.pc ∧ t'.sp = t.sp ∧ t'.flags = t.flags ∧
      t'.mem = t.mem ∧ t'.events = t.events ∧ t'.draws = t.draws ∧ t'.faulted = t.faulted ∧ t'.params = t.params ∧
      (∀ r : Reg, (r ≠ .a ∨ s.byteAt s.pc ≠ 0x20#8) → t'.reg r = t.reg r)

/-- R27, R29: which instructions write pc after the fetch, and which write sp. -/
def Obligations.WritersOfProgramCounterAndStackPointer : Prop :=
  ∀ (i : Instr) (s t : State), exec i s = .next t →
    (opcodeOf i ∉
      [0xC3#8, 0xE9#8, 0xCD#8, 0xC9#8,
       0xC2#8, 0xCA#8, 0xD2#8, 0xDA#8, 0xE2#8, 0xEA#8, 0xF2#8, 0xFA#8,
       0xC4#8, 0xCC#8, 0xD4#8, 0xDC#8, 0xE4#8, 0xEC#8, 0xF4#8, 0xFC#8,
       0xC0#8, 0xC8#8, 0xD0#8, 0xD8#8, 0xE0#8, 0xE8#8, 0xF0#8, 0xF8#8,
       0xC7#8, 0xCF#8, 0xD7#8, 0xDF#8, 0xE7#8, 0xEF#8, 0xF7#8, 0xFF#8] → t.pc = s.pc) ∧
    (opcodeOf i ∉
      [0x31#8, 0x33#8, 0x3B#8, 0xF9#8, 0xC5#8, 0xD5#8, 0xE5#8, 0xF5#8, 0xC1#8, 0xD1#8, 0xE1#8, 0xF1#8,
       0xCD#8, 0xC4#8, 0xCC#8, 0xD4#8, 0xDC#8, 0xE4#8, 0xEC#8, 0xF4#8, 0xFC#8,
       0xC9#8, 0xC0#8, 0xC8#8, 0xD0#8, 0xD8#8, 0xE0#8, 0xE8#8, 0xF0#8, 0xF8#8,
       0xC7#8, 0xCF#8, 0xD7#8, 0xDF#8, 0xE7#8, 0xEF#8, 0xF7#8, 0xFF#8] → t.sp = s.sp)

/-- R56: which instructions write memory (a table the spec derives from its family rules). -/
def Obligations.OnlyStoringInstructionsChangeMemory : Prop :=
  ∀ (i : Instr) (s t : State), exec i s = .next t →
    opcodeOf i ∉
      [0x70#8, 0x71#8, 0x72#8, 0x73#8, 0x74#8, 0x75#8, 0x77#8, 0x36#8, 0x34#8, 0x35#8,
       0x32#8, 0x02#8, 0x12#8, 0x22#8, 0xC5#8, 0xD5#8, 0xE5#8, 0xF5#8, 0xCD#8, 0xE3#8,
       0xC4#8, 0xCC#8, 0xD4#8, 0xDC#8, 0xE4#8, 0xEC#8, 0xF4#8, 0xFC#8,
       0xC7#8, 0xCF#8, 0xD7#8, 0xDF#8, 0xE7#8, 0xEF#8, 0xF7#8, 0xFF#8] →
      ∀ a : Word, t.byteAt a = s.byteAt a

/-- R31: which instructions write flags (a table the spec derives from its family rules; where the source states no flag
effect, its own decision D10). Opcodes 80 to BF are the arithmetic, logical and compare rows. An instruction
that is none of the arithmetic, logical, compare, rotate, carry and POP PSW rows writes no flag; INR and DCR leave C;
DAD, the rotates, STC and CMC leave S, Z, AC and P. -/
def Obligations.WritersOfFlags : Prop :=
  ∀ (i : Instr) (s t : State), exec i s = .next t →
    (opcodeOf i ∉
      [0x04#8, 0x0C#8, 0x14#8, 0x1C#8, 0x24#8, 0x2C#8, 0x34#8, 0x3C#8,
       0x05#8, 0x0D#8, 0x15#8, 0x1D#8, 0x25#8, 0x2D#8, 0x35#8, 0x3D#8,
       0x09#8, 0x19#8, 0x29#8, 0x39#8, 0x07#8, 0x0F#8, 0x17#8, 0x1F#8, 0x27#8, 0x37#8, 0x3F#8,
       0xC6#8, 0xCE#8, 0xD6#8, 0xDE#8, 0xE6#8, 0xEE#8, 0xF6#8, 0xFE#8, 0xF1#8] →
      (opcodeOf i).toNat / 64 ≠ 2 → t.flags = s.flags) ∧
    (opcodeOf i ∈
      [0x04#8, 0x0C#8, 0x14#8, 0x1C#8, 0x24#8, 0x2C#8, 0x34#8, 0x3C#8,
       0x05#8, 0x0D#8, 0x15#8, 0x1D#8, 0x25#8, 0x2D#8, 0x35#8, 0x3D#8] → keepsFlags [.s, .z, .ac, .p] s t) ∧
    (opcodeOf i ∈
      [0x09#8, 0x19#8, 0x29#8, 0x39#8, 0x07#8, 0x0F#8, 0x17#8, 0x1F#8, 0x37#8, 0x3F#8] →
      keepsFlags [.c] s t)

/-! ## Data transfer (40_data_transfer.md) -/

/-- R100, MOV d,src between registers (no flag: the spec's own decision D10). -/
def Obligations.MovBetweenRegisters : Prop :=
  ∀ (dst src : Reg) (s : State),
    encode (.movRegReg dst src) = [BitVec.ofNat 8 (0x40 + 8 * dst.offset + src.offset)] ∧
    ∃ t, exec (.movRegReg dst src) s = .next t ∧ t.reg dst = s.reg src ∧
      keepsBut [dst] [] [] s t ∧ t.sp = s.sp ∧ t.pc = s.pc ∧ (dst = src → t = s)

/-- R101, MOV d,M: the address is H:L before the write (no flag: the spec's own decision D10; the failure: D16). -/
def Obligations.MovFromMemory : Prop :=
  ∀ (dst : Reg) (s : State),
    encode (.movRegMem dst) = [BitVec.ofNat 8 (0x46 + 8 * dst.offset)] ∧
    (s.present s.hl = true →
      ∃ t, exec (.movRegMem dst) s = .next t ∧ t.reg dst = s.byteAt s.hl ∧
        keepsBut [dst] [] [] s t ∧ t.sp = s.sp ∧ t.pc = s.pc) ∧
    (s.present s.hl = false → failsAt (exec (.movRegMem dst) s) s.hl)

/-- R102 and R104, MOV M,src and MVI M,d8 (no flag: the spec's own decision D10; the failure: D16). -/
def Obligations.MovAndMviToMemory : Prop :=
  (∀ src : Reg, encode (.movMemReg src) = [BitVec.ofNat 8 (0x70 + src.offset)]) ∧
  (∀ d8 : Byte, encode (.mvi .m d8) = [0x36#8, d8]) ∧
  ∀ (i : Instr) (v : Byte) (s : State),
    ((∃ src : Reg, i = .movMemReg src ∧ v = s.reg src) ∨ i = .mvi .m v) →
    (s.mem.wf = true → s.present s.hl = true →
      ∃ t, exec i s = .next t ∧ t.byteAt s.hl = v ∧
        keepsBut [] [] [s.hl] s t ∧ t.sp = s.sp ∧ t.pc = s.pc) ∧
    (s.present s.hl = false → failsAt (exec i s) s.hl)

/-- R103, MVI d,d8 (no flag: the spec's own decision D10). -/
def Obligations.MviToRegister : Prop :=
  ∀ (dst : Reg) (d8 : Byte) (s : State),
    encode (.mvi (.reg dst) d8) = [BitVec.ofNat 8 (0x06 + 8 * dst.offset), d8] ∧
    ∃ t, exec (.mvi (.reg dst) d8) s = .next t ∧ t.reg dst = d8 ∧
      keepsBut [dst] [] [] s t ∧ t.sp = s.sp ∧ t.pc = s.pc

/-- R105, LXI rp,d16, for the three register pairs and SP (no flag: the spec's own decision D10). -/
def Obligations.LxiLoadsPair : Prop :=
  (∀ (p : PairSP) (hi lo : Byte),
    encode (.lxi p (joinBytes hi lo)) = [BitVec.ofNat 8 (0x01 + 0x10 * p.code), lo, hi]) ∧
  (∀ (p : Pair) (hi lo : Byte) (s : State),
    ∃ t, exec (.lxi (.rp p) (joinBytes hi lo)) s = .next t ∧
      t.reg (pairHigh p) = hi ∧ t.reg (pairLow p) = lo ∧
      keepsBut (pairRegs p) [] [] s t ∧ t.sp = s.sp ∧ t.pc = s.pc) ∧
  (∀ (d16 : Word) (s : State),
    ∃ t, exec (.lxi .sp d16) s = .next t ∧ t.sp = d16 ∧ keepsBut [] [] [] s t ∧ t.pc = s.pc)

/-- R106 and R110, LDA a16 and LDAX rp (no flag: the spec's own decision D10; the failure: D16). -/
def Obligations.LoadAccumulator : Prop :=
  (∀ a16 : Word, encode (.lda a16) = [0x3A#8, loByte a16, hiByte a16]) ∧
  (∀ p : PairBD, encode (.ldax p) = [BitVec.ofNat 8 (0x0A + 0x10 * p.code)]) ∧
  ∀ (i : Instr) (a : Word) (s : State),
    (i = .lda a ∨ ∃ p : PairBD, i = .ldax p ∧ a = s.pair p.toPair) →
    (s.present a = true →
      ∃ t, exec i s = .next t ∧ t.reg .a = s.byteAt a ∧
        keepsBut [.a] [] [] s t ∧ t.sp = s.sp ∧ t.pc = s.pc) ∧
    (s.present a = false → failsAt (exec i s) a)

/-- R107 and R111, STA a16 and STAX rp (no flag: the spec's own decision D10; the failure: D16). -/
def Obligations.StoreAccumulator : Prop :=
  (∀ a16 : Word, encode (.sta a16) = [0x32#8, loByte a16, hiByte a16]) ∧
  (∀ p : PairBD, encode (.stax p) = [BitVec.ofNat 8 (0x02 + 0x10 * p.code)]) ∧
  ∀ (i : Instr) (a : Word) (s : State),
    (i = .sta a ∨ ∃ p : PairBD, i = .stax p ∧ a = s.pair p.toPair) →
    (s.mem.wf = true → s.present a = true →
      ∃ t, exec i s = .next t ∧ t.byteAt a = s.reg .a ∧
        keepsBut [] [] [a] s t ∧ t.sp = s.sp ∧ t.pc = s.pc) ∧
    (s.present a = false → failsAt (exec i s) a)

/-- R108, LHLD a16: L from the address, H from the next one, modulo 65536 (no flag: the spec's own decision D10; the failure: D16). -/
def Obligations.LhldLoadsLowByteFirst : Prop :=
  ∀ (a16 : Word) (s : State),
    encode (.lhld a16) = [0x2A#8, loByte a16, hiByte a16] ∧
    (s.present a16 = true → s.present (a16 + 1#16) = true →
      ∃ t, exec (.lhld a16) s = .next t ∧ t.reg .l = s.byteAt a16 ∧ t.reg .h = s.byteAt (a16 + 1#16) ∧
        keepsBut [.h, .l] [] [] s t ∧ t.sp = s.sp ∧ t.pc = s.pc) ∧
    (s.present a16 = false → failsAt (exec (.lhld a16) s) a16) ∧
    (s.present a16 = true → s.present (a16 + 1#16) = false → failsAt (exec (.lhld a16) s) (a16 + 1#16))

/-- R109, SHLD a16: L to the address, H to the next one, modulo 65536 (no flag: the spec's own decision D10; the failure: D16). -/
def Obligations.ShldStoresLowByteFirst : Prop :=
  ∀ (a16 : Word) (s : State),
    encode (.shld a16) = [0x22#8, loByte a16, hiByte a16] ∧
    (s.mem.wf = true → s.present a16 = true → s.present (a16 + 1#16) = true →
      ∃ t, exec (.shld a16) s = .next t ∧ t.byteAt a16 = s.reg .l ∧ t.byteAt (a16 + 1#16) = s.reg .h ∧
        keepsBut [] [] [a16, a16 + 1#16] s t ∧ t.sp = s.sp ∧ t.pc = s.pc) ∧
    (s.present a16 = false → failsAt (exec (.shld a16) s) a16) ∧
    (s.present a16 = true → s.present (a16 + 1#16) = false → failsAt (exec (.shld a16) s) (a16 + 1#16))

/-- R112, XCHG; twice restores both pairs (no flag: the spec's own decision D10). -/
def Obligations.XchgExchangesPairs : Prop :=
  ∀ s : State,
    encode .xchg = [0xEB#8] ∧
    ∃ t, exec .xchg s = .next t ∧ t.reg .h = s.reg .d ∧ t.reg .l = s.reg .e ∧ t.reg .d = s.reg .h ∧
      t.reg .e = s.reg .l ∧ keepsBut [.d, .e, .h, .l] [] [] s t ∧ t.sp = s.sp ∧ t.pc = s.pc ∧
      exec .xchg t = .next s

/-! ## Arithmetic (41_arithmetic.md) -/

/-- R140 and R141, ADD s and ADI d8. The failure of ADD M is R302's (the spec's own decision D16). -/
def Obligations.AddWritesSumAndAllFlags : Prop :=
  (∀ o : Operand8, encode (.add o) = [BitVec.ofNat 8 (0x80 + o.offset)]) ∧
  (∀ d8 : Byte, encode (.adi d8) = [0xC6#8, d8]) ∧
  (∀ s : State, s.present s.hl = false → failsAt (exec (.add .m) s) s.hl) ∧
  ∀ (i : Instr) (v : Byte) (s : State),
    ((∃ o : Operand8, i = .add o ∧ s.operandPresent o = true ∧ v = s.operand o) ∨ i = .adi v) →
    ∃ t, exec i s = .next t ∧
      (t.reg .a).toNat = ((s.reg .a).toNat + v.toNat) % 256 ∧ szpOf (t.reg .a) t.flags ∧
      t.flags.ac = decide (15 < (s.reg .a).toNat % 16 + v.toNat % 16) ∧
      t.flags.c = decide (255 < (s.reg .a).toNat + v.toNat) ∧
      keepsBut [.a] [.s, .z, .ac, .p, .c] [] s t ∧ t.sp = s.sp ∧ t.pc = s.pc

/-- R142 and R143, ADC s and ACI d8: the carry in is added and C ends 0. That the carry in is a third
addend in exact arithmetic, so that AC counts it, is the spec's own decision D4. -/
def Obligations.AdcAddsCarryAndClearsIt : Prop :=
  (∀ o : Operand8, encode (.adc o) = [BitVec.ofNat 8 (0x88 + o.offset)]) ∧
  (∀ d8 : Byte, encode (.aci d8) = [0xCE#8, d8]) ∧
  (∀ s : State, s.present s.hl = false → failsAt (exec (.adc .m) s) s.hl) ∧
  ∀ (i : Instr) (v : Byte) (s : State),
    ((∃ o : Operand8, i = .adc o ∧ s.operandPresent o = true ∧ v = s.operand o) ∨ i = .aci v) →
    ∃ t, exec i s = .next t ∧
      (t.reg .a).toNat = ((s.reg .a).toNat + v.toNat + s.flags.c.toNat) % 256 ∧ szpOf (t.reg .a) t.flags ∧
      t.flags.ac = decide (15 < (s.reg .a).toNat % 16 + v.toNat % 16 + s.flags.c.toNat) ∧
      t.flags.c = false ∧
      keepsBut [.a] [.s, .z, .ac, .p, .c] [] s t ∧ t.sp = s.sp ∧ t.pc = s.pc

/-- R144 and R145, SUB s and SUI d8. That an equal subtraction keeps C is the spec's own decision D6. -/
def Obligations.SubKeepsCarryWhenEqual : Prop :=
  (∀ o : Operand8, encode (.sub o) = [BitVec.ofNat 8 (0x90 + o.offset)]) ∧
  (∀ d8 : Byte, encode (.sui d8) = [0xD6#8, d8]) ∧
  (∀ s : State, s.present s.hl = false → failsAt (exec (.sub .m) s) s.hl) ∧
  ∀ (i : Instr) (v : Byte) (s : State),
    ((∃ o : Operand8, i = .sub o ∧ s.operandPresent o = true ∧ v = s.operand o) ∨ i = .sui v) →
    ∃ t, exec i s = .next t ∧
      (t.reg .a).toNat = (256 + (s.reg .a).toNat - v.toNat) % 256 ∧ szpOf (t.reg .a) t.flags ∧
      t.flags.ac = decide ((s.reg .a).toNat % 16 < v.toNat % 16) ∧
      ((s.reg .a).toNat < v.toNat → t.flags.c = true) ∧
      ((s.reg .a).toNat = v.toNat → t.flags.c = s.flags.c) ∧
      ((s.reg .a).toNat > v.toNat → t.flags.c = false) ∧
      keepsBut [.a] [.s, .z, .ac, .p, .c] [] s t ∧ t.sp = s.sp ∧ t.pc = s.pc

/-- R146 and R147, SBB s and SBI d8, under both values of SBB_CARRY_MODE (the spec's own decisions D4, D5, D6). -/
def Obligations.SbbFollowsCarryMode : Prop :=
  (∀ o : Operand8, encode (.sbb o) = [BitVec.ofNat 8 (0x98 + o.offset)]) ∧
  (∀ d8 : Byte, encode (.sbi d8) = [0xDE#8, d8]) ∧
  (∀ s : State, s.present s.hl = false → failsAt (exec (.sbb .m) s) s.hl) ∧
  ∀ (i : Instr) (v : Byte) (s : State),
    ((∃ o : Operand8, i = .sbb o ∧ s.operandPresent o = true ∧ v = s.operand o) ∨ i = .sbi v) →
    ∃ t, exec i s = .next t ∧
      (t.reg .a).toNat = (512 + (s.reg .a).toNat - v.toNat - s.flags.c.toNat) % 256 ∧
      szpOf (t.reg .a) t.flags ∧
      t.flags.ac = decide ((s.reg .a).toNat % 16 < v.toNat % 16 + s.flags.c.toNat) ∧
      (s.params.sbbCarryMode = .cleared → t.flags.c = false) ∧
      (s.params.sbbCarryMode = .computed →
        ((s.reg .a).toNat < v.toNat + s.flags.c.toNat → t.flags.c = true) ∧
        ((s.reg .a).toNat = v.toNat + s.flags.c.toNat → t.flags.c = s.flags.c) ∧
        ((s.reg .a).toNat > v.toNat + s.flags.c.toNat → t.flags.c = false)) ∧
      keepsBut [.a] [.s, .z, .ac, .p, .c] [] s t ∧ t.sp = s.sp ∧ t.pc = s.pc

/-- R148 and R149, INR s and DCR s: C is left, AC is the low nibble's carry or borrow (the spec's own decision D25). -/
def Obligations.InrAndDcrLeaveCarry : Prop :=
  (∀ o : Operand8, encode (.inr o) = [BitVec.ofNat 8 (0x04 + 8 * o.offset)] ∧
    encode (.dcr o) = [BitVec.ofNat 8 (0x05 + 8 * o.offset)]) ∧
  (∀ s : State, s.present s.hl = false →
    failsAt (exec (.inr .m) s) s.hl ∧ failsAt (exec (.dcr .m) s) s.hl) ∧
  ∀ (o : Operand8) (s : State), s.mem.wf = true → s.operandPresent o = true →
    (∃ t r, exec (.inr o) s = .next t ∧ r = s.operand o + 1#8 ∧
      (∀ q, o = .reg q → t.reg q = r) ∧ (o = .m → t.byteAt s.hl = r) ∧
      szpOf r t.flags ∧ t.flags.ac = decide ((s.operand o).toNat % 16 = 15) ∧
      keepsBut (operandRegs o) [.s, .z, .ac, .p] (s.operandAddress o) s t ∧ t.sp = s.sp ∧ t.pc = s.pc) ∧
    (∃ t r, exec (.dcr o) s = .next t ∧ r = s.operand o - 1#8 ∧
      (∀ q, o = .reg q → t.reg q = r) ∧ (o = .m → t.byteAt s.hl = r) ∧
      szpOf r t.flags ∧ t.flags.ac = decide ((s.operand o).toNat % 16 = 0) ∧
      keepsBut (operandRegs o) [.s, .z, .ac, .p] (s.operandAddress o) s t ∧ t.sp = s.sp ∧ t.pc = s.pc)

/-- R150 and R151, INX rp and DCX rp, modulo 65536, with no flag written. -/
def Obligations.InxAndDcxMovePair : Prop :=
  (∀ p : PairSP, encode (.inx p) = [BitVec.ofNat 8 (0x03 + 0x10 * p.code)] ∧
    encode (.dcx p) = [BitVec.ofNat 8 (0x0B + 0x10 * p.code)]) ∧
  (∀ (p : Pair) (s : State),
    (∃ t, exec (.inx (.rp p)) s = .next t ∧ (t.pair p).toNat = ((s.pair p).toNat + 1) % 65536 ∧
      keepsBut (pairRegs p) [] [] s t ∧ t.sp = s.sp ∧ t.pc = s.pc) ∧
    (∃ t, exec (.dcx (.rp p)) s = .next t ∧ (t.pair p).toNat = ((s.pair p).toNat + 65535) % 65536 ∧
      keepsBut (pairRegs p) [] [] s t ∧ t.sp = s.sp ∧ t.pc = s.pc)) ∧
  (∀ s : State,
    (∃ t, exec (.inx .sp) s = .next t ∧ t.sp.toNat = (s.sp.toNat + 1) % 65536 ∧
      keepsBut [] [] [] s t ∧ t.pc = s.pc) ∧
    (∃ t, exec (.dcx .sp) s = .next t ∧ t.sp.toNat = (s.sp.toNat + 65535) % 65536 ∧
      keepsBut [] [] [] s t ∧ t.pc = s.pc))

/-- R152, DAD rp: H:L plus the pair or SP, and C alone. -/
def Obligations.DadAddsIntoHLAndSetsCarryOnly : Prop :=
  ∀ (p : PairSP) (s : State),
    encode (.dad p) = [BitVec.ofNat 8 (0x09 + 0x10 * p.code)] ∧
    ∃ t, exec (.dad p) s = .next t ∧
      (t.pair .h).toNat = ((s.pair .h).toNat + (s.pairSP p).toNat) % 65536 ∧
      t.flags.c = decide (65535 < (s.pair .h).toNat + (s.pairSP p).toNat) ∧
      keepsBut [.h, .l] [.c] [] s t ∧ t.sp = s.sp ∧ t.pc = s.pc

/-- R153, DAA under both values of DAA_MODE (the spec's own decision D7; the algorithm is from general knowledge). The
correction is 6 when the low nibble is over 9 or AC is set, and 60h when A is over 99h or C is set. -/
def Obligations.DaaAdjustsUnderItsMode : Prop :=
  encode .daa = [0x27#8] ∧
  (∀ s : State, s.params.daaMode = .stub → exec .daa s = .next s) ∧
  ∀ (s : State) (low high : Nat),
    s.params.daaMode = .standard →
    low = (if 9 < (s.reg .a).toNat % 16 ∨ s.flags.ac = true then 6 else 0) →
    high = (if 0x99 < (s.reg .a).toNat ∨ s.flags.c = true then 0x60 else 0) →
    ∃ t, exec .daa s = .next t ∧ (t.reg .a).toNat = ((s.reg .a).toNat + low + high) % 256 ∧
      szpOf (t.reg .a) t.flags ∧ t.flags.ac = decide (15 < (s.reg .a).toNat % 16 + low) ∧
      t.flags.c = (s.flags.c || decide (0x99 < (s.reg .a).toNat)) ∧
      keepsBut [.a] [.s, .z, .ac, .p, .c] [] s t ∧ t.sp = s.sp ∧ t.pc = s.pc

/-! ## Logical, compare, rotate and carry (42_logical_rotate.md) -/

/-- R180 to R185: ANA, ANI, XRA, XRI, ORA, ORI. Bit by bit; AC is 1 after the and, 0 after the others, C is 0.
The failure of the M forms is R302's (the spec's own decision D16). -/
def Obligations.LogicalResultsAndFlags : Prop :=
  (∀ o : Operand8, encode (.ana o) = [BitVec.ofNat 8 (0xA0 + o.offset)] ∧
    encode (.xra o) = [BitVec.ofNat 8 (0xA8 + o.offset)] ∧
    encode (.ora o) = [BitVec.ofNat 8 (0xB0 + o.offset)]) ∧
  (∀ d8 : Byte, encode (.ani d8) = [0xE6#8, d8] ∧ encode (.xri d8) = [0xEE#8, d8] ∧
    encode (.ori d8) = [0xF6#8, d8]) ∧
  (∀ s : State, s.present s.hl = false →
    failsAt (exec (.ana .m) s) s.hl ∧ failsAt (exec (.xra .m) s) s.hl ∧ failsAt (exec (.ora .m) s) s.hl) ∧
  ∀ (i : Instr) (v : Byte) (bit : Bool → Bool → Bool) (ac : Bool) (s : State),
    (((∃ o, s.operandPresent o = true ∧ v = s.operand o ∧ i = .ana o) ∨ i = .ani v) ∧
        bit = (fun x y => x && y) ∧ ac = true ∨
      ((∃ o, s.operandPresent o = true ∧ v = s.operand o ∧ i = .xra o) ∨ i = .xri v) ∧
        bit = (fun x y => x ^^ y) ∧ ac = false ∨
      ((∃ o, s.operandPresent o = true ∧ v = s.operand o ∧ i = .ora o) ∨ i = .ori v) ∧
        bit = (fun x y => x || y) ∧ ac = false) →
    ∃ t, exec i s = .next t ∧
      (∀ n, n < 8 → (t.reg .a).getLsbD n = bit ((s.reg .a).getLsbD n) (v.getLsbD n)) ∧
      szpOf (t.reg .a) t.flags ∧ t.flags.ac = ac ∧ t.flags.c = false ∧
      keepsBut [.a] [.s, .z, .ac, .p, .c] [] s t ∧ t.sp = s.sp ∧ t.pc = s.pc

/-- R186 and R187, CMP s and CPI d8: the flags of A minus the operand, and nothing else; an equal comparison keeps C.
R186 marks its S, Z, P and AC writes as derived; that CPI and CMP both keep C is decision D6. -/
def Obligations.CompareWritesFlagsOnly : Prop :=
  (∀ o : Operand8, encode (.cmp o) = [BitVec.ofNat 8 (0xB8 + o.offset)]) ∧
  (∀ d8 : Byte, encode (.cpi d8) = [0xFE#8, d8]) ∧
  (∀ s : State, s.present s.hl = false → failsAt (exec (.cmp .m) s) s.hl) ∧
  ∀ (i : Instr) (v : Byte) (s : State),
    ((∃ o : Operand8, i = .cmp o ∧ s.operandPresent o = true ∧ v = s.operand o) ∨ i = .cpi v) →
    ∃ t, exec i s = .next t ∧ szpOf (s.reg .a - v) t.flags ∧
      t.flags.ac = decide ((s.reg .a).toNat % 16 < v.toNat % 16) ∧
      ((s.reg .a).toNat < v.toNat → t.flags.c = true) ∧
      ((s.reg .a).toNat = v.toNat → t.flags.c = s.flags.c) ∧
      ((s.reg .a).toNat > v.toNat → t.flags.c = false) ∧
      keepsBut [] [.s, .z, .ac, .p, .c] [] s t ∧ t.sp = s.sp ∧ t.pc = s.pc

/-- R188 to R191: the rotates move each bit of A one place, write C from the bit rotated out and no other flag (the spec's
own decision D10). -/
def Obligations.RotatesMoveEachBit : Prop :=
  encode .rlc = [0x07#8] ∧ encode .rrc = [0x0F#8] ∧ encode .ral = [0x17#8] ∧ encode .rar = [0x1F#8] ∧
  ∀ (s : State) (i : Instr) (left : Bool) (inBit : Bool),
    (i = .rlc ∧ left = true ∧ inBit = (s.reg .a).getLsbD 7 ∨
      i = .rrc ∧ left = false ∧ inBit = (s.reg .a).getLsbD 0 ∨
      i = .ral ∧ left = true ∧ inBit = s.flags.c ∨
      i = .rar ∧ left = false ∧ inBit = s.flags.c) →
    ∃ t, exec i s = .next t ∧
      (left = true → (t.reg .a).getLsbD 0 = inBit ∧ t.flags.c = (s.reg .a).getLsbD 7 ∧
        ∀ n, n < 7 → (t.reg .a).getLsbD (n + 1) = (s.reg .a).getLsbD n) ∧
      (left = false → (t.reg .a).getLsbD 7 = inBit ∧ t.flags.c = (s.reg .a).getLsbD 0 ∧
        ∀ n, n < 7 → (t.reg .a).getLsbD n = (s.reg .a).getLsbD (n + 1)) ∧
      keepsBut [.a] [.c] [] s t ∧ t.sp = s.sp ∧ t.pc = s.pc

/-- R192 to R194: CMA, STC, CMC (the spec takes them from general knowledge, decisions D1, D10). -/
def Obligations.ComplementAndCarryInstructions : Prop :=
  encode .cma = [0x2F#8] ∧ encode .stc = [0x37#8] ∧ encode .cmc = [0x3F#8] ∧
  ∀ s : State,
    (∃ t, exec .cma s = .next t ∧ (t.reg .a).toNat = 255 - (s.reg .a).toNat ∧
      keepsBut [.a] [] [] s t ∧ t.sp = s.sp ∧ t.pc = s.pc) ∧
    (∃ t, exec .stc s = .next t ∧ t.flags.c = true ∧
      keepsBut [] [.c] [] s t ∧ t.sp = s.sp ∧ t.pc = s.pc) ∧
    (∃ t, exec .cmc s = .next t ∧ t.flags.c = !s.flags.c ∧
      keepsBut [] [.c] [] s t ∧ t.sp = s.sp ∧ t.pc = s.pc)

/-! ## Stack (43_stack.md) -/

/-- R220, PUSH rp: sp moves down by 2 and the high byte goes to the lower address (no flag: the spec's own decision D10; the
failure: D16). -/
def Obligations.PushStoresHighByteLower : Prop :=
  ∀ (p : Pair) (s : State),
    encode (.push (.rp p)) = [BitVec.ofNat 8 (0xC5 + 0x10 * p.code)] ∧
    (s.mem.wf = true → s.present (s.sp - 2#16) = true → s.present (s.sp - 1#16) = true →
      ∃ t, exec (.push (.rp p)) s = .next t ∧ t.sp = s.sp - 2#16 ∧
        t.byteAt (s.sp - 2#16) = s.reg (pairHigh p) ∧ t.byteAt (s.sp - 1#16) = s.reg (pairLow p) ∧
        keepsBut [] [] [s.sp - 2#16, s.sp - 1#16] s t ∧ t.pc = s.pc) ∧
    (s.present (s.sp - 2#16) = false → failsAt (exec (.push (.rp p)) s) (s.sp - 2#16)) ∧
    (s.present (s.sp - 2#16) = true → s.present (s.sp - 1#16) = false →
      failsAt (exec (.push (.rp p)) s) (s.sp - 1#16))

/-- R221 and R33, PUSH PSW: A at the lower address, above it a byte that holds each flag at its bit of a PSW_LAYOUT that
gives each flag its own bit, and under every layout the layout's own value at the bits no flag has; under the default
layout the bits of R33 (the spec's own decision D8; the failure: D16). -/
def Obligations.PushPswPacksFlags : Prop :=
  encode (.push .psw) = [0xF5#8] ∧
  ∀ s : State,
    (s.mem.wf = true → s.present (s.sp - 2#16) = true → s.present (s.sp - 1#16) = true →
      ∃ t v, exec (.push .psw) s = .next t ∧ t.sp = s.sp - 2#16 ∧
        t.byteAt (s.sp - 2#16) = s.reg .a ∧ t.byteAt (s.sp - 1#16) = v ∧
        (s.params.pswLayout.wellFormed = true →
          v.getLsbD s.params.pswLayout.s.val = s.flags.s ∧ v.getLsbD s.params.pswLayout.z.val = s.flags.z ∧
          v.getLsbD s.params.pswLayout.ac.val = s.flags.ac ∧ v.getLsbD s.params.pswLayout.p.val = s.flags.p ∧
          v.getLsbD s.params.pswLayout.c.val = s.flags.c) ∧
        (∀ n : Fin 8, n ≠ s.params.pswLayout.s → n ≠ s.params.pswLayout.z → n ≠ s.params.pswLayout.ac →
          n ≠ s.params.pswLayout.p → n ≠ s.params.pswLayout.c →
          v.getLsbD n.val = s.params.pswLayout.unused.getLsbD n.val) ∧
        (s.params.pswLayout = PswLayout.default →
          v.toNat = s.flags.s.toNat * 128 + s.flags.z.toNat * 64 + s.flags.ac.toNat * 16 +
            s.flags.p.toNat * 4 + s.flags.c.toNat) ∧
        keepsBut [] [] [s.sp - 2#16, s.sp - 1#16] s t ∧ t.pc = s.pc) ∧
    (s.present (s.sp - 2#16) = false → failsAt (exec (.push .psw) s) (s.sp - 2#16)) ∧
    (s.present (s.sp - 2#16) = true → s.present (s.sp - 1#16) = false → failsAt (exec (.push .psw) s) (s.sp - 1#16))

/-- R222, POP rp (no flag: the spec's own decision D10; the failure: D16). -/
def Obligations.PopLoadsHighByteFromLower : Prop :=
  ∀ (p : Pair) (s : State),
    encode (.pop (.rp p)) = [BitVec.ofNat 8 (0xC1 + 0x10 * p.code)] ∧
    (s.present s.sp = true → s.present (s.sp + 1#16) = true →
      ∃ t, exec (.pop (.rp p)) s = .next t ∧ t.sp = s.sp + 2#16 ∧
        t.reg (pairHigh p) = s.byteAt s.sp ∧ t.reg (pairLow p) = s.byteAt (s.sp + 1#16) ∧
        keepsBut (pairRegs p) [] [] s t ∧ t.pc = s.pc) ∧
    (s.present s.sp = false → failsAt (exec (.pop (.rp p)) s) s.sp) ∧
    (s.present s.sp = true → s.present (s.sp + 1#16) = false → failsAt (exec (.pop (.rp p)) s) (s.sp + 1#16))

/-- R223 and R33, POP PSW: A from the lower address, the flags from their bits of the byte above it; the bits no flag has
are ignored (the spec's own decision D8). -/
def Obligations.PopPswUnpacksFlags : Prop :=
  encode (.pop .psw) = [0xF1#8] ∧
  ∀ s : State,
    (s.present s.sp = true → s.present (s.sp + 1#16) = true →
      ∃ t v, exec (.pop .psw) s = .next t ∧ v = s.byteAt (s.sp + 1#16) ∧ t.sp = s.sp + 2#16 ∧
        t.reg .a = s.byteAt s.sp ∧
        t.flags.s = v.getLsbD s.params.pswLayout.s.val ∧ t.flags.z = v.getLsbD s.params.pswLayout.z.val ∧
        t.flags.ac = v.getLsbD s.params.pswLayout.ac.val ∧ t.flags.p = v.getLsbD s.params.pswLayout.p.val ∧
        t.flags.c = v.getLsbD s.params.pswLayout.c.val ∧
        (s.params.pswLayout = PswLayout.default →
          t.flags = { s := v.getLsbD 7, z := v.getLsbD 6, ac := v.getLsbD 4, p := v.getLsbD 2,
                      c := v.getLsbD 0 }) ∧
        keepsBut [.a] [.s, .z, .ac, .p, .c] [] s t ∧ t.pc = s.pc) ∧
    (s.present s.sp = false → failsAt (exec (.pop .psw) s) s.sp) ∧
    (s.present s.sp = true → s.present (s.sp + 1#16) = false → failsAt (exec (.pop .psw) s) (s.sp + 1#16))

/-- R222, R223: PUSH then POP restores the pair and sp, for the register pairs and, under a layout that gives each flag
its own bit, for PSW. -/
def Obligations.PushThenPopRestores : Prop :=
  ∀ (p : PairPSW) (s t : State),
    s.mem.wf = true → s.params.pswLayout.wellFormed = true → exec (.push p) s = .next t →
      ∃ u, exec (.pop p) t = .next u ∧ u.regs = s.regs ∧ u.flags = s.flags ∧ u.sp = s.sp ∧ u.mem = t.mem

/-- R224, XTHL: H with the byte at sp, L with the byte at sp + 1 (the spec's own decision D9), sp unchanged. -/
def Obligations.XthlExchangesTopOfStack : Prop :=
  encode .xthl = [0xE3#8] ∧
  ∀ s : State,
    (s.mem.wf = true → s.present s.sp = true → s.present (s.sp + 1#16) = true →
      ∃ t, exec .xthl s = .next t ∧ t.reg .h = s.byteAt s.sp ∧ t.reg .l = s.byteAt (s.sp + 1#16) ∧
        t.byteAt s.sp = s.reg .h ∧ t.byteAt (s.sp + 1#16) = s.reg .l ∧
        keepsBut [.h, .l] [] [s.sp, s.sp + 1#16] s t ∧ t.sp = s.sp ∧ t.pc = s.pc) ∧
    (s.present s.sp = false → failsAt (exec .xthl s) s.sp) ∧
    (s.present s.sp = true → s.present (s.sp + 1#16) = false → failsAt (exec .xthl s) (s.sp + 1#16))

/-! ## Control transfer (44_control_transfer.md) -/

/-- R225, R240 and R247: SPHL, JMP a16 and PCHL (no flag: the spec's own decision D10). -/
def Obligations.SphlJmpAndPchlLoad : Prop :=
  encode .sphl = [0xF9#8] ∧ encode .pchl = [0xE9#8] ∧
  (∀ a16 : Word, encode (.jmp a16) = [0xC3#8, loByte a16, hiByte a16]) ∧
  (∀ s : State, ∃ t, exec .sphl s = .next t ∧ t.sp = joinBytes (s.reg .h) (s.reg .l) ∧
    keepsBut [] [] [] s t ∧ t.pc = s.pc) ∧
  (∀ s : State, ∃ t, exec .pchl s = .next t ∧ t.pc = joinBytes (s.reg .h) (s.reg .l) ∧
    keepsBut [] [] [] s t ∧ t.sp = s.sp) ∧
  (∀ (a16 : Word) (s : State), ∃ t, exec (.jmp a16) s = .next t ∧ t.pc = a16 ∧
    keepsBut [] [] [] s t ∧ t.sp = s.sp)

/-- R80 and R241: the conditions, each read from its flag, and the conditional jumps: pc is the target when the condition
holds, else the next instruction. The conditions are from general knowledge (the spec's own decision D3). -/
def Obligations.ConditionalJump : Prop :=
  (∀ (cc : Cond) (a16 : Word),
    encode (.jcc cc a16) = [BitVec.ofNat 8 (0xC2 + 8 * cc.code), loByte a16, hiByte a16]) ∧
  ∀ (cc : Cond) (a16 : Word) (s : State) (taken : Bool),
    (cc = .nz ∧ taken = !s.flags.z ∨ cc = .z ∧ taken = s.flags.z ∨
      cc = .nc ∧ taken = !s.flags.c ∨ cc = .c ∧ taken = s.flags.c ∨
      cc = .po ∧ taken = !s.flags.p ∨ cc = .pe ∧ taken = s.flags.p ∨
      cc = .p ∧ taken = !s.flags.s ∨ cc = .m ∧ taken = s.flags.s) →
    s.flags.holds cc = taken ∧
    ∃ t, exec (.jcc cc a16) s = .next t ∧ t.pc = (if taken then a16 else s.pc) ∧
      keepsBut [] [] [] s t ∧ t.sp = s.sp

/-- R242 and R246, CALL a16 and RST n: the return address, high byte lower, and the target, 8n for RST (the spec's own
decision D19). -/
def Obligations.CallAndRestartPushReturnAddress : Prop :=
  (∀ a16 : Word, encode (.call a16) = [0xCD#8, loByte a16, hiByte a16]) ∧
  (∀ n : Fin 8, encode (.rst n) = [BitVec.ofNat 8 (0xC7 + 8 * n.val)]) ∧
  ∀ (i : Instr) (target : Word) (s : State),
    (i = .call target ∨ ∃ n : Fin 8, i = .rst n ∧ target.toNat = 8 * n.val) →
    (s.mem.wf = true → s.present (s.sp - 2#16) = true → s.present (s.sp - 1#16) = true →
      ∃ t, exec i s = .next t ∧ t.pc = target ∧ t.sp = s.sp - 2#16 ∧
        t.byteAt (s.sp - 2#16) = hiByte s.pc ∧ t.byteAt (s.sp - 1#16) = loByte s.pc ∧
        keepsBut [] [] [s.sp - 2#16, s.sp - 1#16] s t) ∧
    (s.present (s.sp - 2#16) = false → failsAt (exec i s) (s.sp - 2#16)) ∧
    (s.present (s.sp - 2#16) = true → s.present (s.sp - 1#16) = false → failsAt (exec i s) (s.sp - 1#16))

/-- R243, the conditional calls: CALL when the condition holds, else only the pc advance of the fetch (D3, D26). -/
def Obligations.ConditionalCall : Prop :=
  ∀ (cc : Cond) (a16 : Word) (s : State),
    encode (.ccc cc a16) = [BitVec.ofNat 8 (0xC4 + 8 * cc.code), loByte a16, hiByte a16] ∧
    (s.flags.holds cc = false → exec (.ccc cc a16) s = .next s) ∧
    (s.flags.holds cc = true → s.mem.wf = true → s.present (s.sp - 2#16) = true → s.present (s.sp - 1#16) = true →
      ∃ t, exec (.ccc cc a16) s = .next t ∧ t.pc = a16 ∧ t.sp = s.sp - 2#16 ∧
        t.byteAt (s.sp - 2#16) = hiByte s.pc ∧ t.byteAt (s.sp - 1#16) = loByte s.pc ∧
        keepsBut [] [] [s.sp - 2#16, s.sp - 1#16] s t) ∧
    (s.flags.holds cc = true → s.present (s.sp - 2#16) = false → failsAt (exec (.ccc cc a16) s) (s.sp - 2#16)) ∧
    (s.flags.holds cc = true → s.present (s.sp - 2#16) = true → s.present (s.sp - 1#16) = false →
      failsAt (exec (.ccc cc a16) s) (s.sp - 1#16))

/-- R244, RET (no flag: the spec's own decision D10; the failure: D16). -/
def Obligations.ReturnPopsProgramCounter : Prop :=
  encode .ret = [0xC9#8] ∧
  ∀ s : State,
    (s.present s.sp = true → s.present (s.sp + 1#16) = true →
      ∃ t, exec .ret s = .next t ∧ t.pc = joinBytes (s.byteAt s.sp) (s.byteAt (s.sp + 1#16)) ∧
        t.sp = s.sp + 2#16 ∧ keepsBut [] [] [] s t) ∧
    (s.present s.sp = false → failsAt (exec .ret s) s.sp) ∧
    (s.present s.sp = true → s.present (s.sp + 1#16) = false → failsAt (exec .ret s) (s.sp + 1#16))

/-- R245, the conditional returns: RET when the condition holds, else only the pc advance of the fetch (D3, D26). -/
def Obligations.ConditionalReturn : Prop :=
  ∀ (cc : Cond) (s : State),
    encode (.rcc cc) = [BitVec.ofNat 8 (0xC0 + 8 * cc.code)] ∧
    (s.flags.holds cc = false → exec (.rcc cc) s = .next s) ∧
    (s.flags.holds cc = true → s.present s.sp = true → s.present (s.sp + 1#16) = true →
      ∃ t, exec (.rcc cc) s = .next t ∧ t.pc = joinBytes (s.byteAt s.sp) (s.byteAt (s.sp + 1#16)) ∧
        t.sp = s.sp + 2#16 ∧ keepsBut [] [] [] s t) ∧
    (s.flags.holds cc = true → s.present s.sp = false → failsAt (exec (.rcc cc) s) s.sp) ∧
    (s.flags.holds cc = true → s.present s.sp = true → s.present (s.sp + 1#16) = false →
      failsAt (exec (.rcc cc) s) (s.sp + 1#16))

/-! ## Machine control and I/O (45_machine_control.md) -/

/-- R261, NOP: nothing but the pc advance of the fetch; and a byte of 0, which unwritten memory holds, runs as NOP. -/
def Obligations.NopOnlyAdvances : Prop :=
  encode .nop = [0x00#8] ∧ (∀ s : State, exec .nop s = .next s) ∧
  ∀ s : State, s.faulted = false → s.present s.pc = true → s.byteAt s.pc = 0x00#8 →
    step s = .next { s with pc := s.pc + 1#16, events := [] }

/-- R262 and R267, HLT and OUT: one event each, and no other change (the spec's own decisions D12, D13). -/
def Obligations.HltAndOutEmitOneEvent : Prop :=
  encode .hlt = [0x76#8] ∧ (∀ d8 : Byte, encode (.outPort d8) = [0xD3#8, d8]) ∧
  ∀ s : State,
    exec .hlt s = .next { s with events := s.events ++ [.halted] } ∧
    ∀ d8 : Byte, exec (.outPort d8) s = .next { s with events := s.events ++ [.ioOut d8 (s.reg .a)] }

/-- R263 to R265, R268: EI, DI, SIM and RIM under both values of IM_MODEL (the spec's own decision D11). -/
def Obligations.InterruptMaskInstructions : Prop :=
  encode .ei = [0xFB#8] ∧ encode .di = [0xF3#8] ∧ encode .sim = [0x30#8] ∧ encode .rim = [0x20#8] ∧
  ∀ s : State, s.im &&& ~~~(imImplemented s.params.imModel) = 0#8 →
    exec .ei s = .next { s with im := s.im ||| 0x08#8 } ∧
    exec .di s = .next { s with im := s.im &&& 0xF7#8 } ∧
    (s.params.imModel = .literal → exec .sim s = .next { s with im := s.reg .a }) ∧
    (s.params.imModel = .standard8085 → (s.reg .a).getLsbD 3 = false → exec .sim s = .next s) ∧
    (s.params.imModel = .standard8085 → (s.reg .a).getLsbD 3 = true →
      ∃ t, exec .sim s = .next t ∧ t = { s with im := t.im } ∧
        (∀ n, n < 3 → t.im.getLsbD n = (s.reg .a).getLsbD n) ∧
        ∀ n, 3 ≤ n → t.im.getLsbD n = s.im.getLsbD n) ∧
    ∃ t, exec .rim s = .next t ∧ t.reg .a = s.im ∧ keepsBut [.a] [] [] s t ∧ t.sp = s.sp ∧ t.pc = s.pc

/-- R266, IN port: the draw goes to A and every other part of the state stays but the count of draws, which is the
model's own. The draw is a free value (the spec's own decision D12, notes/assumptions/9.md). -/
def Obligations.InDrawsAFreeByte : Prop :=
  ∀ (d8 : Byte) (s : State),
    encode (.inPort d8) = [0xDB#8, d8] ∧
    ∃ t, exec (.inPort d8) s = .next t ∧ t.reg .a = Config.ioIn s.draws d8 ∧ t.draws = s.draws + 1 ∧
      keepsRegs [.a] s t ∧ t.flags = s.flags ∧ keepsMemory [] s t ∧ t.im = s.im ∧ t.faulted = s.faulted ∧
      t.events = s.events ∧ t.params = s.params ∧ t.sp = s.sp ∧ t.pc = s.pc

/-! ## The host interface (70_reset_and_hazards.md) -/

/-- R322 and R63: the bytes `setMemory` loads are what the next fetches read, and every other byte stays; a load that
would pass MEM_SIZE is refused. The refusal is the spec's own decision D17; that of a load of no bytes from above MEM_SIZE
is the model's choice (notes/assumptions/25.md). -/
def Obligations.SetMemoryLoadsBytes : Prop :=
  ∀ (a : Word) (bytes : List Byte) (s : State), s.mem.wf = true → s.params.memSize ≤ 65536 →
    (a.toNat + bytes.length ≤ s.params.memSize →
      ∃ t, setMemory a bytes s = some t ∧ t.bytesAt a bytes.length = bytes ∧
        (∀ b : Word, (b.toNat < a.toNat ∨ a.toNat + bytes.length ≤ b.toNat) → t.byteAt b = s.byteAt b) ∧
        keepsRegs [] s t ∧ t.flags = s.flags ∧ keepsControl s t ∧ t.sp = s.sp ∧ t.pc = s.pc) ∧
    (s.params.memSize < a.toNat + bytes.length → setMemory a bytes s = none)

/-- R324 and R327: `run()` stops before a HLT under pc, which is a good end unless the engine is Faulted and never one if it
is, and at an absent pc with no verdict; else it steps, a failed step being a bad end. The placement of the tests is the
spec's own decision D21; that `run()` makes them on a Faulted engine too is the model's choice (notes/assumptions/23.md). -/
def Obligations.RunTestsBeforeEachStep : Prop :=
  ∀ (n : Nat) (s : State),
    (s.present s.pc = false → run (n + 1) s = .pastEnd s ∧ (run (n + 1) s).verdict = .noVerdict) ∧
    (s.present s.pc = true → s.byteAt s.pc = 0x76#8 →
      run (n + 1) s = .atHalt s ∧ (s.faulted = false → (run (n + 1) s).verdict = .good) ∧
        (s.faulted = true → (run (n + 1) s).verdict ≠ .good)) ∧
    (∀ t, s.present s.pc = true → s.byteAt s.pc ≠ 0x76#8 → step s = .next t → run (n + 1) s = run n t) ∧
    (∀ f, s.present s.pc = true → s.byteAt s.pc ≠ 0x76#8 → step s = .fault f →
      run (n + 1) s = .failed f ∧ (run (n + 1) s).verdict = .bad)
end

