-- ==== Sys2Proof/Laws/Catalog.lean ====
section
/-!
SUPPORT. The bytes of a word, and what the decoder does with a catalog entry of each shape.
-/

namespace Sys2Proof

/-! ## Bytes of a word -/

theorem toNat_joinBytes (hi lo : Byte) : (joinBytes hi lo).toNat = hi.toNat * 256 + lo.toNat := by
  have := hi.isLt
  have := lo.isLt
  simp only [joinBytes, BitVec.toNat_ofNat]
  omega

@[simp] theorem hiByte_joinBytes (hi lo : Byte) : hiByte (joinBytes hi lo) = hi := by
  have := hi.isLt
  have := lo.isLt
  apply BitVec.eq_of_toNat_eq
  simp only [hiByte, toNat_joinBytes, BitVec.toNat_ofNat]
  omega

@[simp] theorem loByte_joinBytes (hi lo : Byte) : loByte (joinBytes hi lo) = lo := by
  have := hi.isLt
  have := lo.isLt
  apply BitVec.eq_of_toNat_eq
  simp only [loByte, toNat_joinBytes, BitVec.toNat_ofNat]
  omega

@[simp] theorem joinBytes_hiByte_loByte (w : Word) : joinBytes (hiByte w) (loByte w) = w := by
  have := w.isLt
  apply BitVec.eq_of_toNat_eq
  simp only [toNat_joinBytes, hiByte, loByte, BitVec.toNat_ofNat]
  omega

/-! ## Entries -/

/-- The catalog entry of an encoding's opcode byte takes its operand bytes back to the instruction. -/
def EncodingMatchesCatalog (i : Instr) : Prop :=
  match encode i with
  | [op] => catalogByByte .full op = some (.plain i)
  | [op, d8] => ∃ f, catalogByByte .full op = some (.data8 f) ∧ f d8 = i
  | [op, lo, hi] => ∃ f, catalogByByte .full op = some (.data16 f) ∧ f (joinBytes hi lo) = i
  | _ => False

theorem decode_plain {ext : CatalogExtent} {op : Byte} {i : Instr} (rest : List Byte)
    (h : catalogByByte ext op = some (.plain i)) : decode ext (op :: rest) = .ok (i, rest) := by
  simp [decode, h]

theorem decode_data8 {ext : CatalogExtent} {op : Byte} {f : Byte → Instr} (d8 : Byte) (rest : List Byte)
    (h : catalogByByte ext op = some (.data8 f)) : decode ext (op :: d8 :: rest) = .ok (f d8, rest) := by
  simp [decode, h]

theorem decode_data16 {ext : CatalogExtent} {op : Byte} {f : Word → Instr} (lo hi : Byte) (rest : List Byte)
    (h : catalogByByte ext op = some (.data16 f)) :
    decode ext (op :: lo :: hi :: rest) = .ok (f (joinBytes hi lo), rest) := by
  simp [decode, h]

/-- `docNamed` only removes entries. -/
theorem catalogByByte_docNamed {op : Byte} {e : Entry} (h : catalogByByte .docNamed op = some e) :
    catalogByByte .full op = some e := by
  simp only [catalogByByte] at h ⊢
  split at h
  · cases h
  · exact h

/-- Every entry is one of the full catalog. -/
theorem catalogByByte_full {ext : CatalogExtent} {op : Byte} {e : Entry} (h : catalogByByte ext op = some e) :
    catalogByByte .full op = some e := by
  cases ext with
  | full => exact h
  | docNamed => exact catalogByByte_docNamed h

/-- What decoding can be: one case for each shape of entry. -/
theorem decode_eq_ok {ext : CatalogExtent} {bytes rest : List Byte} {i : Instr}
    (h : decode ext bytes = .ok (i, rest)) :
    ∃ op, (bytes = op :: rest ∧ catalogByByte ext op = some (.plain i)) ∨
      (∃ f d8, bytes = op :: d8 :: rest ∧ catalogByByte ext op = some (.data8 f) ∧ f d8 = i) ∨
      (∃ f lo hi, bytes = op :: lo :: hi :: rest ∧ catalogByByte ext op = some (.data16 f) ∧
        f (joinBytes hi lo) = i) := by
  match bytes, h with
  | [], h => cases h
  | op :: tail, h =>
    refine ⟨op, ?_⟩
    simp only [decode] at h
    split at h
    · cases h
    · next j hj =>
      obtain ⟨rfl, rfl⟩ := Prod.mk.inj (Except.ok.inj h)
      exact .inl ⟨rfl, hj⟩
    · next f hf =>
      match tail, h with
      | [], h => cases h
      | d8 :: _, h =>
        obtain ⟨hi, rfl⟩ := Prod.mk.inj (Except.ok.inj h)
        exact .inr (.inl ⟨f, d8, rfl, hf, hi⟩)
    · next f hf =>
      match tail, h with
      | [], h => cases h
      | [_], h => cases h
      | lo :: hi :: _, h =>
        obtain ⟨hi', rfl⟩ := Prod.mk.inj (Except.ok.inj h)
        exact .inr (.inr ⟨f, lo, hi, rfl, hf, hi'⟩)

end Sys2Proof
end

