-- ==== Sys2Proof/Laws/State.lean ====
section
/-!
SUPPORT. One lemma for each field and each update of the state, so that no proof unfolds an update.
-/

namespace Sys2Proof.Machine

variable (s : State)

@[simp] theorem setReg_regs (r : Reg) (v : Byte) : (s.setReg r v).regs = s.regs.set r v := rfl
@[simp] theorem setReg_flags (r : Reg) (v : Byte) : (s.setReg r v).flags = s.flags := rfl
@[simp] theorem setReg_pc (r : Reg) (v : Byte) : (s.setReg r v).pc = s.pc := rfl
@[simp] theorem setReg_sp (r : Reg) (v : Byte) : (s.setReg r v).sp = s.sp := rfl
@[simp] theorem setReg_im (r : Reg) (v : Byte) : (s.setReg r v).im = s.im := rfl
@[simp] theorem setReg_mem (r : Reg) (v : Byte) : (s.setReg r v).mem = s.mem := rfl
@[simp] theorem setReg_faulted (r : Reg) (v : Byte) : (s.setReg r v).faulted = s.faulted := rfl
@[simp] theorem setReg_events (r : Reg) (v : Byte) : (s.setReg r v).events = s.events := rfl
@[simp] theorem setReg_draws (r : Reg) (v : Byte) : (s.setReg r v).draws = s.draws := rfl
@[simp] theorem setReg_params (r : Reg) (v : Byte) : (s.setReg r v).params = s.params := rfl

@[simp] theorem setPair_regs (p : Pair) (w : Word) : (s.setPair p w).regs = (s.regs.set (pairHigh p) (hiByte w)).set (pairLow p) (loByte w) := rfl
@[simp] theorem setPair_flags (p : Pair) (w : Word) : (s.setPair p w).flags = s.flags := rfl
@[simp] theorem setPair_pc (p : Pair) (w : Word) : (s.setPair p w).pc = s.pc := rfl
@[simp] theorem setPair_sp (p : Pair) (w : Word) : (s.setPair p w).sp = s.sp := rfl
@[simp] theorem setPair_im (p : Pair) (w : Word) : (s.setPair p w).im = s.im := rfl
@[simp] theorem setPair_mem (p : Pair) (w : Word) : (s.setPair p w).mem = s.mem := rfl
@[simp] theorem setPair_faulted (p : Pair) (w : Word) : (s.setPair p w).faulted = s.faulted := rfl
@[simp] theorem setPair_events (p : Pair) (w : Word) : (s.setPair p w).events = s.events := rfl
@[simp] theorem setPair_draws (p : Pair) (w : Word) : (s.setPair p w).draws = s.draws := rfl
@[simp] theorem setPair_params (p : Pair) (w : Word) : (s.setPair p w).params = s.params := rfl

@[simp] theorem setByte_regs (a : Word) (v : Byte) : (s.setByte a v).regs = s.regs := rfl
@[simp] theorem setByte_flags (a : Word) (v : Byte) : (s.setByte a v).flags = s.flags := rfl
@[simp] theorem setByte_pc (a : Word) (v : Byte) : (s.setByte a v).pc = s.pc := rfl
@[simp] theorem setByte_sp (a : Word) (v : Byte) : (s.setByte a v).sp = s.sp := rfl
@[simp] theorem setByte_im (a : Word) (v : Byte) : (s.setByte a v).im = s.im := rfl
@[simp] theorem setByte_mem (a : Word) (v : Byte) : (s.setByte a v).mem = s.mem.write a.toNat v := rfl
@[simp] theorem setByte_faulted (a : Word) (v : Byte) : (s.setByte a v).faulted = s.faulted := rfl
@[simp] theorem setByte_events (a : Word) (v : Byte) : (s.setByte a v).events = s.events := rfl
@[simp] theorem setByte_draws (a : Word) (v : Byte) : (s.setByte a v).draws = s.draws := rfl
@[simp] theorem setByte_params (a : Word) (v : Byte) : (s.setByte a v).params = s.params := rfl

@[simp] theorem markFaulted_regs : s.markFaulted.regs = s.regs := rfl
@[simp] theorem markFaulted_flags : s.markFaulted.flags = s.flags := rfl
@[simp] theorem markFaulted_pc : s.markFaulted.pc = s.pc := rfl
@[simp] theorem markFaulted_sp : s.markFaulted.sp = s.sp := rfl
@[simp] theorem markFaulted_im : s.markFaulted.im = s.im := rfl
@[simp] theorem markFaulted_mem : s.markFaulted.mem = s.mem := rfl
@[simp] theorem markFaulted_faulted : s.markFaulted.faulted = true := rfl
@[simp] theorem markFaulted_events : s.markFaulted.events = s.events := rfl
@[simp] theorem markFaulted_draws : s.markFaulted.draws = s.draws := rfl
@[simp] theorem markFaulted_params : s.markFaulted.params = s.params := rfl

@[simp] theorem writeIm_regs (v : Byte) : (s.writeIm v).regs = s.regs := rfl
@[simp] theorem writeIm_flags (v : Byte) : (s.writeIm v).flags = s.flags := rfl
@[simp] theorem writeIm_pc (v : Byte) : (s.writeIm v).pc = s.pc := rfl
@[simp] theorem writeIm_sp (v : Byte) : (s.writeIm v).sp = s.sp := rfl
@[simp] theorem writeIm_im (v : Byte) : (s.writeIm v).im = v &&& imImplemented s.params.imModel := rfl
@[simp] theorem writeIm_mem (v : Byte) : (s.writeIm v).mem = s.mem := rfl
@[simp] theorem writeIm_faulted (v : Byte) : (s.writeIm v).faulted = s.faulted := rfl
@[simp] theorem writeIm_events (v : Byte) : (s.writeIm v).events = s.events := rfl
@[simp] theorem writeIm_draws (v : Byte) : (s.writeIm v).draws = s.draws := rfl
@[simp] theorem writeIm_params (v : Byte) : (s.writeIm v).params = s.params := rfl

@[simp] theorem emit_regs (e : Event) : (s.emit e).regs = s.regs := rfl
@[simp] theorem emit_flags (e : Event) : (s.emit e).flags = s.flags := rfl
@[simp] theorem emit_pc (e : Event) : (s.emit e).pc = s.pc := rfl
@[simp] theorem emit_sp (e : Event) : (s.emit e).sp = s.sp := rfl
@[simp] theorem emit_im (e : Event) : (s.emit e).im = s.im := rfl
@[simp] theorem emit_mem (e : Event) : (s.emit e).mem = s.mem := rfl
@[simp] theorem emit_faulted (e : Event) : (s.emit e).faulted = s.faulted := rfl
@[simp] theorem emit_events (e : Event) : (s.emit e).events = s.events ++ [e] := rfl
@[simp] theorem emit_draws (e : Event) : (s.emit e).draws = s.draws := rfl
@[simp] theorem emit_params (e : Event) : (s.emit e).params = s.params := rfl

@[simp] theorem beginStep_regs : s.beginStep.regs = s.regs := rfl
@[simp] theorem beginStep_flags : s.beginStep.flags = s.flags := rfl
@[simp] theorem beginStep_pc : s.beginStep.pc = s.pc := rfl
@[simp] theorem beginStep_sp : s.beginStep.sp = s.sp := rfl
@[simp] theorem beginStep_im : s.beginStep.im = s.im := rfl
@[simp] theorem beginStep_mem : s.beginStep.mem = s.mem := rfl
@[simp] theorem beginStep_faulted : s.beginStep.faulted = s.faulted := rfl
@[simp] theorem beginStep_events : s.beginStep.events = [] := rfl
@[simp] theorem beginStep_draws : s.beginStep.draws = s.draws := rfl
@[simp] theorem beginStep_params : s.beginStep.params = s.params := rfl

/-! Updates of a pair or SP: the fields no such update writes. -/

@[simp] theorem setPairSP_flags (p : PairSP) (w : Word) : (s.setPairSP p w).flags = s.flags := by cases p <;> rfl
@[simp] theorem setPairSP_pc (p : PairSP) (w : Word) : (s.setPairSP p w).pc = s.pc := by cases p <;> rfl
@[simp] theorem setPairSP_im (p : PairSP) (w : Word) : (s.setPairSP p w).im = s.im := by cases p <;> rfl
@[simp] theorem setPairSP_mem (p : PairSP) (w : Word) : (s.setPairSP p w).mem = s.mem := by cases p <;> rfl
@[simp] theorem setPairSP_faulted (p : PairSP) (w : Word) : (s.setPairSP p w).faulted = s.faulted := by cases p <;> rfl
@[simp] theorem setPairSP_events (p : PairSP) (w : Word) : (s.setPairSP p w).events = s.events := by cases p <;> rfl
@[simp] theorem setPairSP_draws (p : PairSP) (w : Word) : (s.setPairSP p w).draws = s.draws := by cases p <;> rfl
@[simp] theorem setPairSP_params (p : PairSP) (w : Word) : (s.setPairSP p w).params = s.params := by cases p <;> rfl

@[simp] theorem setPairPSW_pc (p : PairPSW) (w : Word) : (s.setPairPSW p w).pc = s.pc := by cases p <;> rfl
@[simp] theorem setPairPSW_sp (p : PairPSW) (w : Word) : (s.setPairPSW p w).sp = s.sp := by cases p <;> rfl
@[simp] theorem setPairPSW_im (p : PairPSW) (w : Word) : (s.setPairPSW p w).im = s.im := by cases p <;> rfl
@[simp] theorem setPairPSW_mem (p : PairPSW) (w : Word) : (s.setPairPSW p w).mem = s.mem := by cases p <;> rfl
@[simp] theorem setPairPSW_faulted (p : PairPSW) (w : Word) : (s.setPairPSW p w).faulted = s.faulted := by cases p <;> rfl
@[simp] theorem setPairPSW_events (p : PairPSW) (w : Word) : (s.setPairPSW p w).events = s.events := by cases p <;> rfl
@[simp] theorem setPairPSW_draws (p : PairPSW) (w : Word) : (s.setPairPSW p w).draws = s.draws := by cases p <;> rfl
@[simp] theorem setPairPSW_params (p : PairPSW) (w : Word) : (s.setPairPSW p w).params = s.params := by cases p <;> rfl

/-! ## Registers -/

@[simp] theorem get_set_same (g : Regs) (r : Reg) (v : Byte) : (g.set r v).get r = v := by cases r <;> rfl

theorem get_set_other (g : Regs) {q r : Reg} (v : Byte) (h : q ≠ r) : (g.set r v).get q = g.get q := by
  cases q <;> cases r <;> first | rfl | exact absurd rfl h

theorem get_set (g : Regs) (q r : Reg) (v : Byte) : (g.set r v).get q = if q = r then v else g.get q := by
  split
  · next h => subst h; exact get_set_same g _ v
  · next h => exact get_set_other g v h

theorem reg_setReg (q r : Reg) (v : Byte) : (s.setReg r v).reg q = if q = r then v else s.reg q :=
  get_set s.regs q r v

@[simp] theorem reg_setReg_same (r : Reg) (v : Byte) : (s.setReg r v).reg r = v := get_set_same s.regs r v

@[simp] theorem reg_setByte (q : Reg) (a : Word) (v : Byte) : (s.setByte a v).reg q = s.reg q := rfl

@[simp] theorem reg_emit (q : Reg) (e : Event) : (s.emit e).reg q = s.reg q := rfl

@[simp] theorem reg_writeIm (q : Reg) (v : Byte) : (s.writeIm v).reg q = s.reg q := rfl

@[simp] theorem reg_beginStep (q : Reg) : s.beginStep.reg q = s.reg q := rfl

theorem reg_setPair (q : Reg) (p : Pair) (w : Word) :
    (s.setPair p w).reg q =
      if q = pairLow p then loByte w else if q = pairHigh p then hiByte w else s.reg q := by
  rw [State.setPair, reg_setReg, reg_setReg]

/-! ## Pairs -/

@[simp] theorem pair_setPair_same (p : Pair) (w : Word) : (s.setPair p w).pair p = w := by
  cases p <;> simp [State.pair, reg_setPair, pairHigh, pairLow]

@[simp] theorem pairSP_setPairSP_same (p : PairSP) (w : Word) : (s.setPairSP p w).pairSP p = w := by
  cases p with
  | rp p => exact pair_setPair_same s p w
  | sp => rfl

/-! ## Addresses -/

@[simp] theorem present_setReg (r : Reg) (v : Byte) (a : Word) : (s.setReg r v).present a = s.present a := rfl

@[simp] theorem present_setByte (b : Word) (v : Byte) (a : Word) : (s.setByte b v).present a = s.present a := rfl

@[simp] theorem present_beginStep (a : Word) : s.beginStep.present a = s.present a := rfl

@[simp] theorem byteAt_setReg (r : Reg) (v : Byte) (a : Word) : (s.setReg r v).byteAt a = s.byteAt a := rfl

@[simp] theorem byteAt_beginStep (a : Word) : s.beginStep.byteAt a = s.byteAt a := rfl

/-- With the whole address space present no address is absent (20_memory.md R59). -/
theorem present_of_full (h : s.params.memSize = 65536) (a : Word) : s.present a = true := by
  have := a.isLt
  simp only [State.present, h, decide_eq_true_eq]
  omega

end Sys2Proof.Machine
end

