-- ==== Sys2Proof/Laws/Memory.lean ====
section
/-!
SUPPORT. Memory: the canonical form is kept, a read after a write gives the value written, and a write leaves every
other address alone.
-/

namespace Sys2Proof.Machine

theorem wf_cons {k : Nat} {v : Byte} {m : Memory} :
    Memory.wf ((k, v) :: m) = true ↔
      v ≠ Memory.unlisted ∧ (∀ c ∈ m, k < c.1) ∧ m.wf = true := by
  simp [Memory.wf, and_assoc]

/-- An address below every listed one reads as `unlisted`. -/
theorem read_of_lt {m : Memory} {a : Nat} (h : ∀ c ∈ m, a < c.1) : m.read a = Memory.unlisted := by
  induction m with
  | nil => rfl
  | cons c m ih =>
    obtain ⟨k, v⟩ := c
    have hk : a < k := h (k, v) (by simp)
    simp only [Memory.read, if_neg (Nat.ne_of_gt hk)]
    exact ih fun c hc => h c (by simp [hc])

/-- The addresses a write lists are the old ones and the written one. -/
theorem mem_write {m : Memory} {a : Nat} {v : Byte} {c : Host.Cell} (h : c ∈ m.write a v) :
    c ∈ m ∨ c = (a, v) := by
  induction m with
  | nil => simp only [Memory.write] at h; split at h <;> simp_all
  | cons c' m ih =>
    obtain ⟨k, w⟩ := c'
    simp only [Memory.write] at h
    split at h
    · split at h
      · exact .inl h
      · rcases List.mem_cons.mp h with h | h
        · exact .inr h
        · exact .inl h
    · split at h
      · split at h
        · exact .inl (List.mem_cons_of_mem _ h)
        · rcases List.mem_cons.mp h with h | h
          · exact .inr h
          · exact .inl (List.mem_cons_of_mem _ h)
      · simp only [List.mem_cons] at h ⊢
        rcases h with h | h
        · exact .inl (.inl h)
        · rcases ih h with h | h <;> simp [h]

/-- Every write keeps the canonical form. -/
theorem write_wf {m : Memory} (a : Nat) (v : Byte) (h : m.wf = true) : (m.write a v).wf = true := by
  induction m with
  | nil => simp only [Memory.write]; split <;> simp_all [Memory.wf]
  | cons c m ih =>
    obtain ⟨k, w⟩ := c
    have h' := wf_cons.mp h
    obtain ⟨hw, hk, hm⟩ := h'
    simp only [Memory.write]
    split
    · next hlt =>
      split
      · exact h
      · next hv =>
        refine wf_cons.mpr ⟨hv, fun c hc => ?_, h⟩
        rcases List.mem_cons.mp hc with rfl | hc
        · exact hlt
        · exact Nat.lt_trans hlt (hk c hc)
    · split
      · next heq =>
        subst heq
        split
        · exact hm
        · next hv => exact wf_cons.mpr ⟨hv, hk, hm⟩
      · next hlt hne =>
        refine wf_cons.mpr ⟨hw, fun c hc => ?_, ih hm⟩
        rcases mem_write hc with hc | rfl
        · exact hk c hc
        · show k < a
          omega

/-- A read after a write. -/
theorem read_write {m : Memory} (a b : Nat) (v : Byte) (h : m.wf = true) :
    (m.write a v).read b = if b = a then v else m.read b := by
  induction m with
  | nil =>
    simp only [Memory.write]
    by_cases hv : v = Memory.unlisted
    · simp [hv, Memory.read]
    · by_cases hb : b = a
      · simp [hv, hb, Memory.read]
      · simp [hv, hb, Memory.read, Ne.symm hb]
  | cons c m ih =>
    obtain ⟨k, w⟩ := c
    obtain ⟨_, hk, hm⟩ := wf_cons.mp h
    simp only [Memory.write]
    split
    · next hlt =>
      have hbelow : Memory.read ((k, w) :: m) a = Memory.unlisted := by
        refine read_of_lt fun c hc => ?_
        rcases List.mem_cons.mp hc with rfl | hc
        · exact hlt
        · exact Nat.lt_trans hlt (hk c hc)
      by_cases hv : v = Memory.unlisted
      · by_cases hb : b = a
        · subst hb; simp [hv, hbelow]
        · simp [hv, hb]
      · by_cases hb : b = a
        · simp [hv, hb, Memory.read]
        · simp [hv, hb, Memory.read, Ne.symm hb]
    · split
      · next heq =>
        subst heq
        by_cases hv : v = Memory.unlisted
        · by_cases hb : b = a
          · subst hb; simp [hv, read_of_lt hk]
          · simp [hv, hb, Memory.read, Ne.symm hb]
        · by_cases hb : b = a
          · simp [hv, hb, Memory.read]
          · simp [hv, hb, Memory.read, Ne.symm hb]
      · next hlt hne =>
        by_cases hb : k = b
        · subst hb
          simp [Memory.read, Ne.symm hne]
        · simp [Memory.read, hb, ih hm]

/-- A write below `n` keeps every listed address below `n`. -/
theorem write_below {m : Memory} {n a : Nat} (v : Byte) (h : m.below n = true) (ha : a < n) :
    (m.write a v).below n = true := by
  simp only [Memory.below, List.all_eq_true, decide_eq_true_eq] at h ⊢
  intro c hc
  rcases mem_write hc with hc | rfl
  · exact h c hc
  · exact ha

variable (s : State)

theorem byteAt_setByte (h : s.mem.wf = true) (a b : Word) (v : Byte) :
    (s.setByte a v).byteAt b = if b = a then v else s.byteAt b := by
  simp only [State.byteAt, setByte_mem, read_write _ _ _ h, BitVec.toNat_inj]

theorem byteAt_setByte_same (h : s.mem.wf = true) (a : Word) (v : Byte) : (s.setByte a v).byteAt a = v := by
  simp [byteAt_setByte s h]

theorem byteAt_setByte_other (h : s.mem.wf = true) {a b : Word} (v : Byte) (hb : b ≠ a) :
    (s.setByte a v).byteAt b = s.byteAt b := by
  simp [byteAt_setByte s h, hb]

theorem setByte_wf (h : s.mem.wf = true) (a : Word) (v : Byte) : (s.setByte a v).mem.wf = true :=
  write_wf _ _ h

theorem setByte_below (a : Word) (v : Byte) (h : s.mem.below s.params.memSize = true) (ha : s.present a = true) :
    (s.setByte a v).mem.below (s.setByte a v).params.memSize = true :=
  write_below v h (by simpa [State.present] using ha)

theorem storeBytes_wf (vs : List Byte) (a : Word) (h : s.mem.wf = true) : (s.storeBytes a vs).mem.wf = true := by
  induction vs generalizing s a with
  | nil => exact h
  | cons v vs ih => exact ih _ (a + 1) (setByte_wf s h a v)

end Sys2Proof.Machine
end

