-- ==== Sys2Proof/Laws/Ops.lean ====
section
/-!
SUPPORT. One lemma for each shared operation: everything it can do when it completes, when it completes, and where it
fails. Proofs about meanings cite these and do not unfold the operations.
-/

namespace Sys2Proof.Machine

variable {s t : State}

/-! ## Sequencing -/

@[simp] theorem andThen_next (u : State) (k : State → Result) : andThen (.next u) k = k u := rfl

@[simp] theorem andThen_fault (f : Fault) (k : State → Result) : andThen (.fault f) k = .fault f := rfl

theorem andThen_eq_next {r : Result} {k : State → Result} :
    andThen r k = .next t ↔ ∃ u, r = .next u ∧ k u = .next t := by
  cases r <;> simp [andThen]

@[simp] theorem settlePartial_next (b u : State) : settlePartial b (.next u) = .next u := rfl

theorem settlePartial_eq_next {b : State} {r : Result} : settlePartial b r = .next t ↔ r = .next t := by
  cases r with
  | next u => rfl
  | fault f => cases f <;> simp [settlePartial]
  | refused x => simp [settlePartial]

@[simp] theorem blendPartial_faulted (b u : State) : (blendPartial b u).faulted = u.faulted := rfl

/-- Opening the earlier writes leaves where and how an instruction failed. -/
theorem failsAt_settlePartial {b : State} {r : Result} {a : Word} (h : failsAt r a) :
    failsAt (settlePartial b r) a := by
  obtain ⟨u, rfl, hu⟩ := h
  exact ⟨blendPartial b u, rfl, hu⟩

theorem failsAt_raise (a : Word) (u : State) : failsAt (raiseMemoryOutOfRange a u) a := ⟨_, rfl, rfl⟩

theorem failsAt_andThen {r : Result} {a : Word} (k : State → Result) (h : failsAt r a) :
    failsAt (andThen r k) a := by
  obtain ⟨u, rfl, hu⟩ := h
  exact ⟨u, rfl, hu⟩

/-! ## Byte accesses -/

@[simp] theorem memRead_present {a : Word} (k : Byte → Result) (h : s.present a = true) :
    memRead s a k = k (s.byteAt a) := if_pos h

theorem memRead_absent {a : Word} (k : Byte → Result) (h : s.present a = false) :
    memRead s a k = raiseMemoryOutOfRange a s := by simp [memRead, h]

theorem memRead_eq_next {a : Word} {k : Byte → Result} :
    memRead s a k = .next t ↔ s.present a = true ∧ k (s.byteAt a) = .next t := by
  cases h : s.present a <;> simp [memRead, h, raiseMemoryOutOfRange]

@[simp] theorem memWrite_present {a : Word} (v : Byte) (k : State → Result) (h : s.present a = true) :
    memWrite s a v k = k (s.setByte a v) := if_pos h

theorem memWrite_absent {a : Word} (v : Byte) (k : State → Result) (h : s.present a = false) :
    memWrite s a v k = raiseMemoryOutOfRange a s := by simp [memWrite, h]

theorem memWrite_eq_next {a : Word} {v : Byte} {k : State → Result} :
    memWrite s a v k = .next t ↔ s.present a = true ∧ k (s.setByte a v) = .next t := by
  cases h : s.present a <;> simp [memWrite, h, raiseMemoryOutOfRange]

theorem fetch8_present (k : Byte → State → Result) (h : s.present s.pc = true) :
    fetch8 s k = k (s.byteAt s.pc) { s with pc := s.pc + 1#16 } := memRead_present _ h

theorem fetch8_absent (k : Byte → State → Result) (h : s.present s.pc = false) :
    fetch8 s k = raiseMemoryOutOfRange s.pc s := memRead_absent _ h

theorem fetch8_eq_next {k : Byte → State → Result} :
    fetch8 s k = .next t ↔ s.present s.pc = true ∧ k (s.byteAt s.pc) { s with pc := s.pc + 1#16 } = .next t :=
  memRead_eq_next

/-- The free pc is one of the two it lies between, no other. -/
theorem partialPc_eq_or (e : PartialEffect) (before now : Word) :
    partialPc s e before now = before ∨ partialPc s e before now = now := by
  rw [partialPc]; split <;> simp

theorem fetchOperand_present (p : Word) (k : Byte → State → Result) (h : s.present s.pc = true) :
    fetchOperand s p k = k (s.byteAt s.pc) { s with pc := s.pc + 1#16 } := by
  rw [fetchOperand, if_pos h, fetch8_present k h]

theorem fetchOperand_absent (p : Word) (k : Byte → State → Result) (h : s.present s.pc = false) :
    fetchOperand s p k = raiseMemoryOutOfRange s.pc { s with pc := p } := by simp [fetchOperand, h]

theorem fetchOperand_eq_next {p : Word} {k : Byte → State → Result} :
    fetchOperand s p k = .next t ↔
      s.present s.pc = true ∧ k (s.byteAt s.pc) { s with pc := s.pc + 1#16 } = .next t := by
  cases h : s.present s.pc
  · simp [fetchOperand_absent p k h, raiseMemoryOutOfRange]
  · simp [fetchOperand_present p k h]

/-! ## Operands -/

theorem src8_present {o : Operand8} (k : Byte → Result) (h : s.operandPresent o = true) :
    src8 o s k = k (s.operand o) := by
  cases o with
  | reg r => rfl
  | m => exact memRead_present k h

theorem src8_absent {o : Operand8} (k : Byte → Result) (h : s.operandPresent o = false) :
    src8 o s k = raiseMemoryOutOfRange s.hl s := by
  cases o with
  | reg r => cases h
  | m => exact memRead_absent k h

theorem src8_eq_next {o : Operand8} {k : Byte → Result} :
    src8 o s k = .next t ↔ s.operandPresent o = true ∧ k (s.operand o) = .next t := by
  cases o with
  | reg r => simp [src8, State.operandPresent, State.operand]
  | m => exact memRead_eq_next

/-- The state after a write of operand `o`. -/
def State.setOperand (s : State) (o : Operand8) (v : Byte) : State :=
  match o with
  | .reg r => s.setReg r v
  | .m => s.setByte s.hl v

theorem dst8_present {o : Operand8} (v : Byte) (h : s.operandPresent o = true) :
    dst8 o s v = .next (s.setOperand o v) := by
  cases o with
  | reg r => rfl
  | m => exact memWrite_present v _ h

theorem dst8_eq_next {o : Operand8} {v : Byte} :
    dst8 o s v = .next t ↔ s.operandPresent o = true ∧ t = s.setOperand o v := by
  cases o with
  | reg r =>
    simp only [dst8, State.operandPresent, State.setOperand, true_and]
    exact ⟨fun h => (Host.Outcome.next.inj h).symm, fun h => h ▸ rfl⟩
  | m =>
    rw [dst8, memWrite_eq_next]
    exact and_congr_right fun _ => ⟨fun h => (Host.Outcome.next.inj h).symm, fun h => h ▸ rfl⟩

/-! ## The stack -/

theorem sub_two_add_one (a : Word) : a - 2#16 + 1#16 = a - 1#16 := by bv_omega

theorem add_one_ne (a : Word) : a + 1#16 ≠ a := by bv_omega

theorem sub_one_ne_sub_two (a : Word) : a - 1#16 ≠ a - 2#16 := by bv_omega

theorem sub_two_add_two (a : Word) : a - 2#16 + 2#16 = a := by bv_omega

/-- The state after a push that completes. -/
def State.pushed (s : State) (w : Word) : State :=
  (({ s with sp := s.sp - 2#16 } : State).setByte (s.sp - 2#16) (hiByte w)).setByte (s.sp - 1#16) (loByte w)

theorem push_present (w : Word) (h : s.present (s.sp - 2#16) = true) (h' : s.present (s.sp - 1#16) = true) :
    push w s = .next (s.pushed w) := by
  have h2 : ({ s with sp := s.sp - 2#16 } : State).present (s.sp - 2#16) = true := h
  have h1 : (({ s with sp := s.sp - 2#16 } : State).setByte (s.sp - 2#16) (hiByte w)).present (s.sp - 1#16) = true := h'
  simp [push, sub_two_add_one, memWrite_present _ _ h2, memWrite_present _ _ h1, State.pushed]

theorem push_absent_high (w : Word) (h : s.present (s.sp - 2#16) = false) : failsAt (push w s) (s.sp - 2#16) := by
  have h2 : ({ s with sp := s.sp - 2#16 } : State).present (s.sp - 2#16) = false := h
  rw [push, memWrite_absent _ _ h2]
  exact failsAt_settlePartial (failsAt_raise _ _)

theorem push_absent_low (w : Word) (h : s.present (s.sp - 2#16) = true) (h' : s.present (s.sp - 1#16) = false) :
    failsAt (push w s) (s.sp - 1#16) := by
  have h2 : ({ s with sp := s.sp - 2#16 } : State).present (s.sp - 2#16) = true := h
  have h1 : (({ s with sp := s.sp - 2#16 } : State).setByte (s.sp - 2#16) (hiByte w)).present (s.sp - 1#16) = false := h'
  rw [push, memWrite_present _ _ h2, sub_two_add_one, memWrite_absent _ _ h1]
  exact failsAt_settlePartial (failsAt_raise _ _)

theorem push_eq_next {w : Word} :
    push w s = .next t ↔
      s.present (s.sp - 2#16) = true ∧ s.present (s.sp - 1#16) = true ∧ t = s.pushed w := by
  constructor
  · intro h
    rw [push, settlePartial_eq_next, memWrite_eq_next, memWrite_eq_next, sub_two_add_one] at h
    obtain ⟨h2, h1, h⟩ := h
    exact ⟨h2, h1, (Host.Outcome.next.inj h).symm⟩
  · rintro ⟨h2, h1, rfl⟩
    exact push_present w h2 h1

@[simp] theorem pushed_sp (w : Word) : (s.pushed w).sp = s.sp - 2#16 := rfl

theorem byteAt_pushed (w : Word) (h : s.mem.wf = true) (a : Word) :
    (s.pushed w).byteAt a =
      if a = s.sp - 1#16 then loByte w else if a = s.sp - 2#16 then hiByte w else s.byteAt a := by
  have h2 : ({ s with sp := s.sp - 2#16 } : State).mem.wf = true := h
  rw [State.pushed, byteAt_setByte _ (setByte_wf _ h2 _ _), byteAt_setByte _ h2]
  rfl

theorem pushed_wf (w : Word) (h : s.mem.wf = true) : (s.pushed w).mem.wf = true :=
  setByte_wf _ (setByte_wf _ h _ _) _ _

theorem stackRead_present (k : Word → Result) (h : s.present s.sp = true) (h' : s.present (s.sp + 1#16) = true) :
    stackRead s k = k (joinBytes (s.byteAt s.sp) (s.byteAt (s.sp + 1#16))) := by
  simp [stackRead, h, h']

theorem stackRead_absent_high (k : Word → Result) (h : s.present s.sp = false) :
    failsAt (stackRead s k) s.sp := by
  rw [stackRead, memRead_absent _ h]
  exact failsAt_raise _ _

theorem stackRead_absent_low (k : Word → Result) (h : s.present s.sp = true) (h' : s.present (s.sp + 1#16) = false) :
    failsAt (stackRead s k) (s.sp + 1#16) := by
  rw [stackRead, memRead_present _ h, memRead_absent _ h']
  exact failsAt_raise _ _

theorem stackRead_eq_next {k : Word → Result} :
    stackRead s k = .next t ↔
      s.present s.sp = true ∧ s.present (s.sp + 1#16) = true ∧
        k (joinBytes (s.byteAt s.sp) (s.byteAt (s.sp + 1#16))) = .next t := by
  simp [stackRead, memRead_eq_next]

theorem pop_present (k : Word → State → Result) (h : s.present s.sp = true) (h' : s.present (s.sp + 1#16) = true) :
    pop s k = k (joinBytes (s.byteAt s.sp) (s.byteAt (s.sp + 1#16))) { s with sp := s.sp + 2#16 } :=
  stackRead_present _ h h'

theorem pop_absent_high (k : Word → State → Result) (h : s.present s.sp = false) : failsAt (pop s k) s.sp :=
  stackRead_absent_high _ h

theorem pop_absent_low (k : Word → State → Result) (h : s.present s.sp = true) (h' : s.present (s.sp + 1#16) = false) :
    failsAt (pop s k) (s.sp + 1#16) :=
  stackRead_absent_low _ h h'

theorem pop_eq_next {k : Word → State → Result} :
    pop s k = .next t ↔
      s.present s.sp = true ∧ s.present (s.sp + 1#16) = true ∧
        k (joinBytes (s.byteAt s.sp) (s.byteAt (s.sp + 1#16))) { s with sp := s.sp + 2#16 } = .next t :=
  stackRead_eq_next

/-! ## The flag byte -/

theorem flagBit_getLsbD (k n : Fin 8) (x : Bool) : (flagBit k x).getLsbD n.val = (x && decide (n = k)) := by
  revert k n x; decide

/-- Each bit of the flag byte: the flags that have it, or else the layout's own value. -/
theorem flagByte_getLsbD (y : PswLayout) (f : Flags) (n : Fin 8) :
    (flagByte y f).getLsbD n.val =
      (if n = y.s ∨ n = y.z ∨ n = y.ac ∨ n = y.p ∨ n = y.c then
        f.s && decide (n = y.s) || f.z && decide (n = y.z) || f.ac && decide (n = y.ac) || f.p && decide (n = y.p) ||
          f.c && decide (n = y.c)
      else y.unused.getLsbD n.val) := by
  simp only [flagByte, layoutMask, BitVec.getLsbD_or, BitVec.getLsbD_and, BitVec.getLsbD_not, flagBit_getLsbD]
  by_cases hs : n = y.s <;> by_cases hz : n = y.z <;> by_cases hac : n = y.ac <;> by_cases hp : n = y.p <;>
    by_cases hc : n = y.c <;> simp [hs, hz, hac, hp, hc]

/-- POP PSW of the flag byte gives the flags back when each flag has its own bit. -/
theorem setFlags_flagByte {y : PswLayout} (h : y.wellFormed = true) (f : Flags) : setFlags y (flagByte y f) = f := by
  simp only [PswLayout.wellFormed, decide_eq_true_eq, List.nodup_cons, List.mem_cons, List.not_mem_nil, or_false,
    not_or] at h
  obtain ⟨⟨h1, h2, h3, h4⟩, ⟨h5, h6, h7⟩, ⟨h8, h9⟩, h10, -⟩ := h
  simp only [setFlags, flagByte_getLsbD]
  simp [h1, h2, h3, h4, h5, h6, h7, h8, h9, h10, Ne.symm h1, Ne.symm h2, Ne.symm h3,
    Ne.symm h4, Ne.symm h5, Ne.symm h6, Ne.symm h7, Ne.symm h8, Ne.symm h9, Ne.symm h10]

end Sys2Proof.Machine
end

