-- ==== Sys2Proof/Laws/Forms.lean ====
section
/-!
SUPPORT. The 246 instructions as 61 forms, so that a proof about every instruction has 61 cases, and the meaning of each
form as one shared operation.
-/

namespace Sys2Proof.Machine

/-- Every instruction is of one of these forms. -/
inductive Form : Instr → Prop where
  | movRegReg (dst src : Reg) : Form (Instr.movRegReg dst src)
  | movRegMem (r : Reg) : Form (Instr.movRegMem r)
  | movMemReg (r : Reg) : Form (Instr.movMemReg r)
  | mvi (o : Operand8) (d8 : Byte) : Form (Instr.mvi o d8)
  | lxi (p : PairSP) (d16 : Word) : Form (Instr.lxi p d16)
  | ldax (p : PairBD) : Form (Instr.ldax p)
  | stax (p : PairBD) : Form (Instr.stax p)
  | inx (p : PairSP) : Form (Instr.inx p)
  | dcx (p : PairSP) : Form (Instr.dcx p)
  | dad (p : PairSP) : Form (Instr.dad p)
  | push (p : PairPSW) : Form (Instr.push p)
  | pop (p : PairPSW) : Form (Instr.pop p)
  | add (o : Operand8) : Form (Instr.add o)
  | adc (o : Operand8) : Form (Instr.adc o)
  | sub (o : Operand8) : Form (Instr.sub o)
  | sbb (o : Operand8) : Form (Instr.sbb o)
  | inr (o : Operand8) : Form (Instr.inr o)
  | dcr (o : Operand8) : Form (Instr.dcr o)
  | ana (o : Operand8) : Form (Instr.ana o)
  | xra (o : Operand8) : Form (Instr.xra o)
  | ora (o : Operand8) : Form (Instr.ora o)
  | cmp (o : Operand8) : Form (Instr.cmp o)
  | jcc (cc : Cond) (a16 : Word) : Form (Instr.jcc cc a16)
  | ccc (cc : Cond) (a16 : Word) : Form (Instr.ccc cc a16)
  | rcc (cc : Cond) : Form (Instr.rcc cc)
  | rst (n : Fin 8) : Form (Instr.rst n)
  | nop : Form (.nop)
  | rlc : Form (.rlc)
  | rrc : Form (.rrc)
  | ral : Form (.ral)
  | rar : Form (.rar)
  | rim : Form (.rim)
  | shld (a16 : Word) : Form (.shld a16)
  | daa : Form (.daa)
  | lhld (a16 : Word) : Form (.lhld a16)
  | cma : Form (.cma)
  | sim : Form (.sim)
  | sta (a16 : Word) : Form (.sta a16)
  | stc : Form (.stc)
  | lda (a16 : Word) : Form (.lda a16)
  | cmc : Form (.cmc)
  | hlt : Form (.hlt)
  | jmp (a16 : Word) : Form (.jmp a16)
  | adi (d8 : Byte) : Form (.adi d8)
  | ret : Form (.ret)
  | call (a16 : Word) : Form (.call a16)
  | aci (d8 : Byte) : Form (.aci d8)
  | outPort (d8 : Byte) : Form (.outPort d8)
  | sui (d8 : Byte) : Form (.sui d8)
  | inPort (d8 : Byte) : Form (.inPort d8)
  | sbi (d8 : Byte) : Form (.sbi d8)
  | xthl : Form (.xthl)
  | ani (d8 : Byte) : Form (.ani d8)
  | pchl : Form (.pchl)
  | xchg : Form (.xchg)
  | xri (d8 : Byte) : Form (.xri d8)
  | di : Form (.di)
  | ori (d8 : Byte) : Form (.ori d8)
  | sphl : Form (.sphl)
  | ei : Form (.ei)
  | cpi (d8 : Byte) : Form (.cpi d8)

/-- The form of each instruction. -/
theorem instr_form : ∀ i : Instr, Form i
  | .nop => .nop
  | .lxiB d16 => .lxi (.rp .b) d16
  | .staxB => .stax .b
  | .inxB => .inx (.rp .b)
  | .inrB => .inr (.reg .b)
  | .dcrB => .dcr (.reg .b)
  | .mviB d8 => .mvi (.reg .b) d8
  | .rlc => .rlc
  | .dadB => .dad (.rp .b)
  | .ldaxB => .ldax .b
  | .dcxB => .dcx (.rp .b)
  | .inrC => .inr (.reg .c)
  | .dcrC => .dcr (.reg .c)
  | .mviC d8 => .mvi (.reg .c) d8
  | .rrc => .rrc
  | .lxiD d16 => .lxi (.rp .d) d16
  | .staxD => .stax .d
  | .inxD => .inx (.rp .d)
  | .inrD => .inr (.reg .d)
  | .dcrD => .dcr (.reg .d)
  | .mviD d8 => .mvi (.reg .d) d8
  | .ral => .ral
  | .dadD => .dad (.rp .d)
  | .ldaxD => .ldax .d
  | .dcxD => .dcx (.rp .d)
  | .inrE => .inr (.reg .e)
  | .dcrE => .dcr (.reg .e)
  | .mviE d8 => .mvi (.reg .e) d8
  | .rar => .rar
  | .rim => .rim
  | .lxiH d16 => .lxi (.rp .h) d16
  | .shld a16 => .shld a16
  | .inxH => .inx (.rp .h)
  | .inrH => .inr (.reg .h)
  | .dcrH => .dcr (.reg .h)
  | .mviH d8 => .mvi (.reg .h) d8
  | .daa => .daa
  | .dadH => .dad (.rp .h)
  | .lhld a16 => .lhld a16
  | .dcxH => .dcx (.rp .h)
  | .inrL => .inr (.reg .l)
  | .dcrL => .dcr (.reg .l)
  | .mviL d8 => .mvi (.reg .l) d8
  | .cma => .cma
  | .sim => .sim
  | .lxiSP d16 => .lxi .sp d16
  | .sta a16 => .sta a16
  | .inxSP => .inx .sp
  | .inrM => .inr .m
  | .dcrM => .dcr .m
  | .mviM d8 => .mvi .m d8
  | .stc => .stc
  | .dadSP => .dad .sp
  | .lda a16 => .lda a16
  | .dcxSP => .dcx .sp
  | .inrA => .inr (.reg .a)
  | .dcrA => .dcr (.reg .a)
  | .mviA d8 => .mvi (.reg .a) d8
  | .cmc => .cmc
  | .movBB => .movRegReg .b .b
  | .movBC => .movRegReg .b .c
  | .movBD => .movRegReg .b .d
  | .movBE => .movRegReg .b .e
  | .movBH => .movRegReg .b .h
  | .movBL => .movRegReg .b .l
  | .movBM => .movRegMem .b
  | .movBA => .movRegReg .b .a
  | .movCB => .movRegReg .c .b
  | .movCC => .movRegReg .c .c
  | .movCD => .movRegReg .c .d
  | .movCE => .movRegReg .c .e
  | .movCH => .movRegReg .c .h
  | .movCL => .movRegReg .c .l
  | .movCM => .movRegMem .c
  | .movCA => .movRegReg .c .a
  | .movDB => .movRegReg .d .b
  | .movDC => .movRegReg .d .c
  | .movDD => .movRegReg .d .d
  | .movDE => .movRegReg .d .e
  | .movDH => .movRegReg .d .h
  | .movDL => .movRegReg .d .l
  | .movDM => .movRegMem .d
  | .movDA => .movRegReg .d .a
  | .movEB => .movRegReg .e .b
  | .movEC => .movRegReg .e .c
  | .movED => .movRegReg .e .d
  | .movEE => .movRegReg .e .e
  | .movEH => .movRegReg .e .h
  | .movEL => .movRegReg .e .l
  | .movEM => .movRegMem .e
  | .movEA => .movRegReg .e .a
  | .movHB => .movRegReg .h .b
  | .movHC => .movRegReg .h .c
  | .movHD => .movRegReg .h .d
  | .movHE => .movRegReg .h .e
  | .movHH => .movRegReg .h .h
  | .movHL => .movRegReg .h .l
  | .movHM => .movRegMem .h
  | .movHA => .movRegReg .h .a
  | .movLB => .movRegReg .l .b
  | .movLC => .movRegReg .l .c
  | .movLD => .movRegReg .l .d
  | .movLE => .movRegReg .l .e
  | .movLH => .movRegReg .l .h
  | .movLL => .movRegReg .l .l
  | .movLM => .movRegMem .l
  | .movLA => .movRegReg .l .a
  | .movMB => .movMemReg .b
  | .movMC => .movMemReg .c
  | .movMD => .movMemReg .d
  | .movME => .movMemReg .e
  | .movMH => .movMemReg .h
  | .movML => .movMemReg .l
  | .hlt => .hlt
  | .movMA => .movMemReg .a
  | .movAB => .movRegReg .a .b
  | .movAC => .movRegReg .a .c
  | .movAD => .movRegReg .a .d
  | .movAE => .movRegReg .a .e
  | .movAH => .movRegReg .a .h
  | .movAL => .movRegReg .a .l
  | .movAM => .movRegMem .a
  | .movAA => .movRegReg .a .a
  | .addB => .add (.reg .b)
  | .addC => .add (.reg .c)
  | .addD => .add (.reg .d)
  | .addE => .add (.reg .e)
  | .addH => .add (.reg .h)
  | .addL => .add (.reg .l)
  | .addM => .add .m
  | .addA => .add (.reg .a)
  | .adcB => .adc (.reg .b)
  | .adcC => .adc (.reg .c)
  | .adcD => .adc (.reg .d)
  | .adcE => .adc (.reg .e)
  | .adcH => .adc (.reg .h)
  | .adcL => .adc (.reg .l)
  | .adcM => .adc .m
  | .adcA => .adc (.reg .a)
  | .subB => .sub (.reg .b)
  | .subC => .sub (.reg .c)
  | .subD => .sub (.reg .d)
  | .subE => .sub (.reg .e)
  | .subH => .sub (.reg .h)
  | .subL => .sub (.reg .l)
  | .subM => .sub .m
  | .subA => .sub (.reg .a)
  | .sbbB => .sbb (.reg .b)
  | .sbbC => .sbb (.reg .c)
  | .sbbD => .sbb (.reg .d)
  | .sbbE => .sbb (.reg .e)
  | .sbbH => .sbb (.reg .h)
  | .sbbL => .sbb (.reg .l)
  | .sbbM => .sbb .m
  | .sbbA => .sbb (.reg .a)
  | .anaB => .ana (.reg .b)
  | .anaC => .ana (.reg .c)
  | .anaD => .ana (.reg .d)
  | .anaE => .ana (.reg .e)
  | .anaH => .ana (.reg .h)
  | .anaL => .ana (.reg .l)
  | .anaM => .ana .m
  | .anaA => .ana (.reg .a)
  | .xraB => .xra (.reg .b)
  | .xraC => .xra (.reg .c)
  | .xraD => .xra (.reg .d)
  | .xraE => .xra (.reg .e)
  | .xraH => .xra (.reg .h)
  | .xraL => .xra (.reg .l)
  | .xraM => .xra .m
  | .xraA => .xra (.reg .a)
  | .oraB => .ora (.reg .b)
  | .oraC => .ora (.reg .c)
  | .oraD => .ora (.reg .d)
  | .oraE => .ora (.reg .e)
  | .oraH => .ora (.reg .h)
  | .oraL => .ora (.reg .l)
  | .oraM => .ora .m
  | .oraA => .ora (.reg .a)
  | .cmpB => .cmp (.reg .b)
  | .cmpC => .cmp (.reg .c)
  | .cmpD => .cmp (.reg .d)
  | .cmpE => .cmp (.reg .e)
  | .cmpH => .cmp (.reg .h)
  | .cmpL => .cmp (.reg .l)
  | .cmpM => .cmp .m
  | .cmpA => .cmp (.reg .a)
  | .rnz => .rcc .nz
  | .popB => .pop (.rp .b)
  | .jnz a16 => .jcc .nz a16
  | .jmp a16 => .jmp a16
  | .cnz a16 => .ccc .nz a16
  | .pushB => .push (.rp .b)
  | .adi d8 => .adi d8
  | .rst0 => .rst 0
  | .rz => .rcc .z
  | .ret => .ret
  | .jz a16 => .jcc .z a16
  | .cz a16 => .ccc .z a16
  | .call a16 => .call a16
  | .aci d8 => .aci d8
  | .rst1 => .rst 1
  | .rnc => .rcc .nc
  | .popD => .pop (.rp .d)
  | .jnc a16 => .jcc .nc a16
  | .outPort d8 => .outPort d8
  | .cnc a16 => .ccc .nc a16
  | .pushD => .push (.rp .d)
  | .sui d8 => .sui d8
  | .rst2 => .rst 2
  | .rc => .rcc .c
  | .jc a16 => .jcc .c a16
  | .inPort d8 => .inPort d8
  | .cc a16 => .ccc .c a16
  | .sbi d8 => .sbi d8
  | .rst3 => .rst 3
  | .rpo => .rcc .po
  | .popH => .pop (.rp .h)
  | .jpo a16 => .jcc .po a16
  | .xthl => .xthl
  | .cpo a16 => .ccc .po a16
  | .pushH => .push (.rp .h)
  | .ani d8 => .ani d8
  | .rst4 => .rst 4
  | .rpe => .rcc .pe
  | .pchl => .pchl
  | .jpe a16 => .jcc .pe a16
  | .xchg => .xchg
  | .cpe a16 => .ccc .pe a16
  | .xri d8 => .xri d8
  | .rst5 => .rst 5
  | .rp => .rcc .p
  | .popPSW => .pop .psw
  | .jp a16 => .jcc .p a16
  | .di => .di
  | .cp a16 => .ccc .p a16
  | .pushPSW => .push .psw
  | .ori d8 => .ori d8
  | .rst6 => .rst 6
  | .rm => .rcc .m
  | .sphl => .sphl
  | .jm a16 => .jcc .m a16
  | .ei => .ei
  | .cm a16 => .ccc .m a16
  | .cpi d8 => .cpi d8
  | .rst7 => .rst 7

/-! ## The meaning of each form -/

variable (s : State)

theorem exec_movRegReg (dst src : Reg) : exec (Instr.movRegReg dst src) s = movReg dst src s := by
  cases dst <;> cases src <;> rfl

theorem exec_movRegMem (r : Reg) : exec (Instr.movRegMem r) s = movFromMem r s := by
  cases r <;> rfl

theorem exec_movMemReg (r : Reg) : exec (Instr.movMemReg r) s = movToMem r s := by
  cases r <;> rfl

theorem exec_mvi_reg (r : Reg) (d8 : Byte) : exec (Instr.mvi (.reg r) d8) s = loadImmediate r d8 s := by
  cases r <;> rfl

theorem exec_mvi_m (d8 : Byte) : exec (Instr.mvi .m d8) s = storeByteAtHL d8 s := rfl

theorem exec_lxi (p : PairSP) (d16 : Word) : exec (Instr.lxi p d16) s = loadPair p d16 s := by
  rcases p with r | _ <;> (try cases r) <;> rfl

theorem exec_ldax (p : PairBD) : exec (Instr.ldax p) s = loadAccumulator (s.pair p.toPair) s := by
  cases p <;> rfl

theorem exec_stax (p : PairBD) : exec (Instr.stax p) s = storeAccumulator (s.pair p.toPair) s := by
  cases p <;> rfl

theorem exec_inx (p : PairSP) : exec (Instr.inx p) s = incrementPair p s := by
  rcases p with r | _ <;> (try cases r) <;> rfl

theorem exec_dcx (p : PairSP) : exec (Instr.dcx p) s = decrementPair p s := by
  rcases p with r | _ <;> (try cases r) <;> rfl

theorem exec_dad (p : PairSP) : exec (Instr.dad p) s = addPairToHL p s := by
  rcases p with r | _ <;> (try cases r) <;> rfl

theorem exec_push (p : PairPSW) : exec (Instr.push p) s = Machine.push (s.pairPSW p) s := by
  rcases p with r | _ <;> (try cases r) <;> rfl

theorem exec_pop (p : PairPSW) : exec (Instr.pop p) s = popInto p s := by
  rcases p with r | _ <;> (try cases r) <;> rfl

theorem exec_add (o : Operand8) : exec (Instr.add o) s = withOperand o s addTo := by
  rcases o with r | _ <;> (try cases r) <;> rfl

theorem exec_adc (o : Operand8) : exec (Instr.adc o) s = withOperand o s adcTo := by
  rcases o with r | _ <;> (try cases r) <;> rfl

theorem exec_sub (o : Operand8) : exec (Instr.sub o) s = withOperand o s subFrom := by
  rcases o with r | _ <;> (try cases r) <;> rfl

theorem exec_sbb (o : Operand8) : exec (Instr.sbb o) s = withOperand o s sbbFrom := by
  rcases o with r | _ <;> (try cases r) <;> rfl

theorem exec_inr (o : Operand8) : exec (Instr.inr o) s = increment o s := by
  rcases o with r | _ <;> (try cases r) <;> rfl

theorem exec_dcr (o : Operand8) : exec (Instr.dcr o) s = decrement o s := by
  rcases o with r | _ <;> (try cases r) <;> rfl

theorem exec_ana (o : Operand8) : exec (Instr.ana o) s = withOperand o s andWith := by
  rcases o with r | _ <;> (try cases r) <;> rfl

theorem exec_xra (o : Operand8) : exec (Instr.xra o) s = withOperand o s xorWith := by
  rcases o with r | _ <;> (try cases r) <;> rfl

theorem exec_ora (o : Operand8) : exec (Instr.ora o) s = withOperand o s orWith := by
  rcases o with r | _ <;> (try cases r) <;> rfl

theorem exec_cmp (o : Operand8) : exec (Instr.cmp o) s = withOperand o s compareWith := by
  rcases o with r | _ <;> (try cases r) <;> rfl

theorem exec_jcc (cc : Cond) (a16 : Word) : exec (Instr.jcc cc a16) s = jumpIf cc a16 s := by
  cases cc <;> rfl

theorem exec_ccc (cc : Cond) (a16 : Word) : exec (Instr.ccc cc a16) s = callIf cc a16 s := by
  cases cc <;> rfl

theorem exec_rcc (cc : Cond) : exec (Instr.rcc cc) s = returnIf cc s := by
  cases cc <;> rfl

theorem exec_rst (n : Fin 8) : exec (Instr.rst n) s = restart n s := by
  fin_cases n <;> rfl

theorem exec_nop : exec (.nop) s = noOperation s := rfl

theorem exec_rlc : exec (.rlc) s = rotateLeft s := rfl

theorem exec_rrc : exec (.rrc) s = rotateRight s := rfl

theorem exec_ral : exec (.ral) s = rotateLeftThroughCarry s := rfl

theorem exec_rar : exec (.rar) s = rotateRightThroughCarry s := rfl

theorem exec_rim : exec (.rim) s = readInterruptMask s := rfl

theorem exec_shld (a16 : Word) : exec (.shld a16) s = storeHLDirect a16 s := rfl

theorem exec_daa : exec (.daa) s = decimalAdjust s := rfl

theorem exec_lhld (a16 : Word) : exec (.lhld a16) s = loadHLDirect a16 s := rfl

theorem exec_cma : exec (.cma) s = complementAccumulator s := rfl

theorem exec_sim : exec (.sim) s = setInterruptMask s := rfl

theorem exec_sta (a16 : Word) : exec (.sta a16) s = storeAccumulator a16 s := rfl

theorem exec_stc : exec (.stc) s = setCarry s := rfl

theorem exec_lda (a16 : Word) : exec (.lda a16) s = loadAccumulator a16 s := rfl

theorem exec_cmc : exec (.cmc) s = complementCarry s := rfl

theorem exec_hlt : exec (.hlt) s = halt s := rfl

theorem exec_jmp (a16 : Word) : exec (.jmp a16) s = jumpTo a16 s := rfl

theorem exec_adi (d8 : Byte) : exec (.adi d8) s = .next (addTo d8 s) := rfl

theorem exec_ret : exec (.ret) s = returnFrom s := rfl

theorem exec_call (a16 : Word) : exec (.call a16) s = callTo a16 s := rfl

theorem exec_aci (d8 : Byte) : exec (.aci d8) s = .next (adcTo d8 s) := rfl

theorem exec_outPort (d8 : Byte) : exec (.outPort d8) s = outputTo d8 s := rfl

theorem exec_sui (d8 : Byte) : exec (.sui d8) s = .next (subFrom d8 s) := rfl

theorem exec_inPort (d8 : Byte) : exec (.inPort d8) s = inputFrom d8 s := rfl

theorem exec_sbi (d8 : Byte) : exec (.sbi d8) s = .next (sbbFrom d8 s) := rfl

theorem exec_xthl : exec (.xthl) s = exchangeTopHL s := rfl

theorem exec_ani (d8 : Byte) : exec (.ani d8) s = .next (andWith d8 s) := rfl

theorem exec_pchl : exec (.pchl) s = jumpTo s.hl s := rfl

theorem exec_xchg : exec (.xchg) s = exchangeDEHL s := rfl

theorem exec_xri (d8 : Byte) : exec (.xri d8) s = .next (xorWith d8 s) := rfl

theorem exec_di : exec (.di) s = disableInterrupts s := rfl

theorem exec_ori (d8 : Byte) : exec (.ori d8) s = .next (orWith d8 s) := rfl

theorem exec_sphl : exec (.sphl) s = loadSPFromHL s := rfl

theorem exec_ei : exec (.ei) s = enableInterrupts s := rfl

theorem exec_cpi (d8 : Byte) : exec (.cpi d8) s = .next (compareWith d8 s) := rfl

/-! ## The opcode byte of each form (30_encoding.md R81) -/

theorem opcodeOf_movRegReg (dst src : Reg) : opcodeOf (Instr.movRegReg dst src) = BitVec.ofNat 8 (0x40 + 8 * dst.offset + src.offset) := by
  cases dst <;> cases src <;> rfl

theorem opcodeOf_movRegMem (r : Reg) : opcodeOf (Instr.movRegMem r) = BitVec.ofNat 8 (0x46 + 8 * r.offset) := by
  cases r <;> rfl

theorem opcodeOf_movMemReg (r : Reg) : opcodeOf (Instr.movMemReg r) = BitVec.ofNat 8 (0x70 + r.offset) := by
  cases r <;> rfl

theorem opcodeOf_mvi (o : Operand8) (d8 : Byte) : opcodeOf (Instr.mvi o d8) = BitVec.ofNat 8 (0x06 + 8 * o.offset) := by
  rcases o with r | _ <;> (try cases r) <;> rfl

theorem opcodeOf_lxi (p : PairSP) (d16 : Word) : opcodeOf (Instr.lxi p d16) = BitVec.ofNat 8 (0x01 + 0x10 * p.code) := by
  rcases p with r | _ <;> (try cases r) <;> rfl

theorem opcodeOf_ldax (p : PairBD) : opcodeOf (Instr.ldax p) = BitVec.ofNat 8 (0x0A + 0x10 * p.code) := by
  cases p <;> rfl

theorem opcodeOf_stax (p : PairBD) : opcodeOf (Instr.stax p) = BitVec.ofNat 8 (0x02 + 0x10 * p.code) := by
  cases p <;> rfl

theorem opcodeOf_inx (p : PairSP) : opcodeOf (Instr.inx p) = BitVec.ofNat 8 (0x03 + 0x10 * p.code) := by
  rcases p with r | _ <;> (try cases r) <;> rfl

theorem opcodeOf_dcx (p : PairSP) : opcodeOf (Instr.dcx p) = BitVec.ofNat 8 (0x0B + 0x10 * p.code) := by
  rcases p with r | _ <;> (try cases r) <;> rfl

theorem opcodeOf_dad (p : PairSP) : opcodeOf (Instr.dad p) = BitVec.ofNat 8 (0x09 + 0x10 * p.code) := by
  rcases p with r | _ <;> (try cases r) <;> rfl

theorem opcodeOf_push (p : PairPSW) : opcodeOf (Instr.push p) = BitVec.ofNat 8 (0xC5 + 0x10 * p.code) := by
  rcases p with r | _ <;> (try cases r) <;> rfl

theorem opcodeOf_pop (p : PairPSW) : opcodeOf (Instr.pop p) = BitVec.ofNat 8 (0xC1 + 0x10 * p.code) := by
  rcases p with r | _ <;> (try cases r) <;> rfl

theorem opcodeOf_add (o : Operand8) : opcodeOf (Instr.add o) = BitVec.ofNat 8 (0x80 + o.offset) := by
  rcases o with r | _ <;> (try cases r) <;> rfl

theorem opcodeOf_adc (o : Operand8) : opcodeOf (Instr.adc o) = BitVec.ofNat 8 (0x88 + o.offset) := by
  rcases o with r | _ <;> (try cases r) <;> rfl

theorem opcodeOf_sub (o : Operand8) : opcodeOf (Instr.sub o) = BitVec.ofNat 8 (0x90 + o.offset) := by
  rcases o with r | _ <;> (try cases r) <;> rfl

theorem opcodeOf_sbb (o : Operand8) : opcodeOf (Instr.sbb o) = BitVec.ofNat 8 (0x98 + o.offset) := by
  rcases o with r | _ <;> (try cases r) <;> rfl

theorem opcodeOf_inr (o : Operand8) : opcodeOf (Instr.inr o) = BitVec.ofNat 8 (0x04 + 8 * o.offset) := by
  rcases o with r | _ <;> (try cases r) <;> rfl

theorem opcodeOf_dcr (o : Operand8) : opcodeOf (Instr.dcr o) = BitVec.ofNat 8 (0x05 + 8 * o.offset) := by
  rcases o with r | _ <;> (try cases r) <;> rfl

theorem opcodeOf_ana (o : Operand8) : opcodeOf (Instr.ana o) = BitVec.ofNat 8 (0xA0 + o.offset) := by
  rcases o with r | _ <;> (try cases r) <;> rfl

theorem opcodeOf_xra (o : Operand8) : opcodeOf (Instr.xra o) = BitVec.ofNat 8 (0xA8 + o.offset) := by
  rcases o with r | _ <;> (try cases r) <;> rfl

theorem opcodeOf_ora (o : Operand8) : opcodeOf (Instr.ora o) = BitVec.ofNat 8 (0xB0 + o.offset) := by
  rcases o with r | _ <;> (try cases r) <;> rfl

theorem opcodeOf_cmp (o : Operand8) : opcodeOf (Instr.cmp o) = BitVec.ofNat 8 (0xB8 + o.offset) := by
  rcases o with r | _ <;> (try cases r) <;> rfl

theorem opcodeOf_jcc (cc : Cond) (a16 : Word) : opcodeOf (Instr.jcc cc a16) = BitVec.ofNat 8 (0xC2 + 8 * cc.code) := by
  cases cc <;> rfl

theorem opcodeOf_ccc (cc : Cond) (a16 : Word) : opcodeOf (Instr.ccc cc a16) = BitVec.ofNat 8 (0xC4 + 8 * cc.code) := by
  cases cc <;> rfl

theorem opcodeOf_rcc (cc : Cond) : opcodeOf (Instr.rcc cc) = BitVec.ofNat 8 (0xC0 + 8 * cc.code) := by
  cases cc <;> rfl

theorem opcodeOf_rst (n : Fin 8) : opcodeOf (Instr.rst n) = BitVec.ofNat 8 (0xC7 + 8 * n.val) := by
  fin_cases n <;> rfl

theorem opcodeOf_nop : opcodeOf (.nop) = 0x00#8 := rfl

theorem opcodeOf_rlc : opcodeOf (.rlc) = 0x07#8 := rfl

theorem opcodeOf_rrc : opcodeOf (.rrc) = 0x0F#8 := rfl

theorem opcodeOf_ral : opcodeOf (.ral) = 0x17#8 := rfl

theorem opcodeOf_rar : opcodeOf (.rar) = 0x1F#8 := rfl

theorem opcodeOf_rim : opcodeOf (.rim) = 0x20#8 := rfl

theorem opcodeOf_shld (a16 : Word) : opcodeOf (.shld a16) = 0x22#8 := rfl

theorem opcodeOf_daa : opcodeOf (.daa) = 0x27#8 := rfl

theorem opcodeOf_lhld (a16 : Word) : opcodeOf (.lhld a16) = 0x2A#8 := rfl

theorem opcodeOf_cma : opcodeOf (.cma) = 0x2F#8 := rfl

theorem opcodeOf_sim : opcodeOf (.sim) = 0x30#8 := rfl

theorem opcodeOf_sta (a16 : Word) : opcodeOf (.sta a16) = 0x32#8 := rfl

theorem opcodeOf_stc : opcodeOf (.stc) = 0x37#8 := rfl

theorem opcodeOf_lda (a16 : Word) : opcodeOf (.lda a16) = 0x3A#8 := rfl

theorem opcodeOf_cmc : opcodeOf (.cmc) = 0x3F#8 := rfl

theorem opcodeOf_hlt : opcodeOf (.hlt) = 0x76#8 := rfl

theorem opcodeOf_jmp (a16 : Word) : opcodeOf (.jmp a16) = 0xC3#8 := rfl

theorem opcodeOf_adi (d8 : Byte) : opcodeOf (.adi d8) = 0xC6#8 := rfl

theorem opcodeOf_ret : opcodeOf (.ret) = 0xC9#8 := rfl

theorem opcodeOf_call (a16 : Word) : opcodeOf (.call a16) = 0xCD#8 := rfl

theorem opcodeOf_aci (d8 : Byte) : opcodeOf (.aci d8) = 0xCE#8 := rfl

theorem opcodeOf_outPort (d8 : Byte) : opcodeOf (.outPort d8) = 0xD3#8 := rfl

theorem opcodeOf_sui (d8 : Byte) : opcodeOf (.sui d8) = 0xD6#8 := rfl

theorem opcodeOf_inPort (d8 : Byte) : opcodeOf (.inPort d8) = 0xDB#8 := rfl

theorem opcodeOf_sbi (d8 : Byte) : opcodeOf (.sbi d8) = 0xDE#8 := rfl

theorem opcodeOf_xthl : opcodeOf (.xthl) = 0xE3#8 := rfl

theorem opcodeOf_ani (d8 : Byte) : opcodeOf (.ani d8) = 0xE6#8 := rfl

theorem opcodeOf_pchl : opcodeOf (.pchl) = 0xE9#8 := rfl

theorem opcodeOf_xchg : opcodeOf (.xchg) = 0xEB#8 := rfl

theorem opcodeOf_xri (d8 : Byte) : opcodeOf (.xri d8) = 0xEE#8 := rfl

theorem opcodeOf_di : opcodeOf (.di) = 0xF3#8 := rfl

theorem opcodeOf_ori (d8 : Byte) : opcodeOf (.ori d8) = 0xF6#8 := rfl

theorem opcodeOf_sphl : opcodeOf (.sphl) = 0xF9#8 := rfl

theorem opcodeOf_ei : opcodeOf (.ei) = 0xFB#8 := rfl

theorem opcodeOf_cpi (d8 : Byte) : opcodeOf (.cpi d8) = 0xFE#8 := rfl

end Sys2Proof.Machine
end

