-- ==== Sys2Proof/Laws/Frame.lean ====
section
/-!
SUPPORT. The frame of each update, and the flags of a result, in the words of `Safety`.
-/

namespace Sys2Proof.Machine

variable (s : State)

/-! ## What an update leaves unchanged -/

theorem keepsBut_refl : keepsBut [] [] [] s s :=
  ⟨fun _ _ => rfl, fun _ _ => rfl, fun _ _ => rfl, rfl, rfl, rfl, rfl, rfl⟩

theorem keepsBut_pc (a : Word) : keepsBut [] [] [] s { s with pc := a } := keepsBut_refl s

theorem keepsBut_sp (a : Word) : keepsBut [] [] [] s { s with sp := a } := keepsBut_refl s

/-- Registers and flags may be replaced where the exceptions allow it. -/
theorem keepsBut_regs_flags {rs : List Reg} {fs : List FlagName} {g : Regs} {f : Flags}
    (hg : ∀ r, r ∉ rs → g.get r = s.reg r) (hf : ∀ n, n ∉ fs → f.get n = s.flags.get n) :
    keepsBut rs fs [] s { s with regs := g, flags := f } :=
  ⟨hg, hf, fun _ _ => rfl, rfl, rfl, rfl, rfl, rfl⟩

theorem keepsBut_setReg_flags {r : Reg} {v : Byte} {f : Flags} {fs : List FlagName}
    (hf : ∀ n, n ∉ fs → f.get n = s.flags.get n) : keepsBut [r] fs [] s { s.setReg r v with flags := f } :=
  keepsBut_regs_flags s (fun q hq => get_set_other _ _ (by simpa using hq)) hf

theorem keepsBut_setReg (r : Reg) (v : Byte) : keepsBut [r] [] [] s (s.setReg r v) :=
  keepsBut_setReg_flags s fun _ _ => rfl

theorem keepsBut_setPair (p : Pair) (w : Word) : keepsBut (pairRegs p) [] [] s (s.setPair p w) := by
  refine keepsBut_regs_flags s (fun q hq => ?_) fun _ _ => rfl
  simp only [pairRegs, List.mem_cons, List.not_mem_nil, or_false, not_or] at hq
  exact (get_set_other _ _ hq.2).trans (get_set_other _ _ hq.1)

theorem keepsBut_setByte (h : s.mem.wf = true) (a : Word) (v : Byte) : keepsBut [] [] [a] s (s.setByte a v) :=
  ⟨fun _ _ => rfl, fun _ _ => rfl, fun _ hb => byteAt_setByte_other s h v (by simpa using hb),
    rfl, rfl, rfl, rfl, rfl⟩

theorem keepsBut_pushed (h : s.mem.wf = true) (w : Word) :
    keepsBut [] [] [s.sp - 2#16, s.sp - 1#16] s (s.pushed w) := by
  refine ⟨fun _ _ => rfl, fun _ _ => rfl, fun b hb => ?_, rfl, rfl, rfl, rfl, rfl⟩
  simp only [List.mem_cons, List.not_mem_nil, or_false, not_or] at hb
  rw [byteAt_pushed w h, if_neg hb.2, if_neg hb.1]

theorem keepsBut_setOperand (h : s.mem.wf = true) (o : Operand8) (v : Byte) :
    keepsBut (operandRegs o) [] (s.operandAddress o) s (s.setOperand o v) := by
  cases o with
  | reg r => exact keepsBut_setReg s r v
  | m => exact keepsBut_setByte s h s.hl v

/-- All five flags are named: there is no other one. -/
theorem flag_is_named {P : Prop} {n : FlagName} (h : n ∉ [FlagName.s, .z, .ac, .p, .c]) : P := by
  cases n <;> simp at h

/-! ## Flags of a result -/

theorem popcount_even_iff_evenParity : ∀ r : Byte, (popcount r % 2 == 0) = evenParity r := by decide +kernel

theorem sign_bit_iff_ge (r : Byte) : r.getLsbD 7 = decide (128 ≤ r.toNat) := by
  revert r
  decide +kernel

theorem szpOf_szp (f : Flags) (r : Byte) (ac c : Bool) : szpOf r (((f.szp r).withAC ac).withC c) := by
  refine ⟨sign_bit_iff_ge r, ?_, popcount_even_iff_evenParity r⟩
  simp only [Flags.szp, Flags.withAC, Flags.withC]
  rw [Bool.eq_iff_iff]
  simp [← BitVec.toNat_inj]

theorem szpOf_szp_withAC (f : Flags) (r : Byte) (ac : Bool) : szpOf r ((f.szp r).withAC ac) :=
  szpOf_szp f r ac f.c

/-! ## Arithmetic on bytes -/

theorem toNat_sum8 (x v : Byte) (cin : Nat) : (sum8 x v cin).toNat = (x.toNat + v.toNat + cin) % 256 := by
  simp [sum8]

theorem toNat_difference8 (x v : Byte) (cin : Nat) (h : cin ≤ 1) :
    (difference8 x v cin).toNat = (512 + x.toNat - v.toNat - cin) % 256 := by
  have := x.isLt
  have := v.isLt
  simp only [difference8, BitVec.toNat_ofInt]
  omega

/-- The three cases of the subtract path's F.C. -/
theorem subCarry_cases (x v : Byte) (cin : Nat) (old : Bool) :
    (x.toNat < v.toNat + cin → subCarry x v cin old = true) ∧
      (x.toNat = v.toNat + cin → subCarry x v cin old = old) ∧
      (x.toNat > v.toNat + cin → subCarry x v cin old = false) := by
  refine ⟨fun h => by simp [subCarry, subLT, h], fun h => by simp [subCarry, subLT, subEQ, h], fun h => ?_⟩
  simp [subCarry, subLT, subEQ, Nat.not_lt.mpr (Nat.le_of_lt h), Nat.ne_of_gt h]

/-! ## Meanings over an operand -/

theorem withOperand_present {o : Operand8} {f : Byte → State → State} (h : s.operandPresent o = true) :
    withOperand o s f = .next (f (s.operand o) s) := src8_present _ h

theorem withOperand_absent {o : Operand8} {f : Byte → State → State} (h : s.operandPresent o = false) :
    failsAt (withOperand o s f) s.hl := by
  rw [withOperand, src8_absent _ h]
  exact failsAt_raise _ _

theorem withOperand_eq_next {o : Operand8} {f : Byte → State → State} {t : State} :
    withOperand o s f = .next t ↔ s.operandPresent o = true ∧ t = f (s.operand o) s := by
  rw [withOperand, src8_eq_next]
  exact and_congr_right fun _ => ⟨fun h => (Host.Outcome.next.inj h).symm, fun h => h ▸ rfl⟩

end Sys2Proof.Machine
end

