-- ==== Sys2Proof/Laws/Step.lean ====
section
/-!
SUPPORT. Everything a step that completes has done: it fetched the bytes of one instruction at pc and ran it.
-/

namespace Sys2Proof.Machine

variable {s t : State}

@[simp] theorem presentFrom_beginStep (a : Word) (n : Nat) :
    s.beginStep.presentFrom a n = s.presentFrom a n := by
  induction n generalizing a with
  | zero => rfl
  | succ n ih => simp [State.presentFrom, ih]

@[simp] theorem bytesAt_beginStep (a : Word) (n : Nat) : s.beginStep.bytesAt a n = s.bytesAt a n := by
  induction n generalizing a with
  | zero => rfl
  | succ n ih => simp [State.bytesAt, ih]

/-- A fetch that goes on has read the `n` bytes of an instruction at pc, all present, and moved pc past them. -/
theorem fetchInstr_eq_next {k : Instr → State → Result} (h : fetchInstr s k = .next t) :
    ∃ i n, 1 ≤ n ∧ n ≤ 3 ∧ s.presentFrom s.pc n = true ∧
      decode s.params.catalogExtent (s.bytesAt s.pc n) = .ok (i, []) ∧
      k i { s with pc := s.pc + BitVec.ofNat 16 n } = .next t := by
  rw [fetchInstr, fetch8_eq_next] at h
  obtain ⟨h0, h⟩ := h
  split at h
  · cases h
  · next i hi =>
    exact ⟨i, 1, by decide, by decide, by simp [State.presentFrom, h0], decode_plain [] hi, h⟩
  · next f hf =>
    obtain ⟨h1, h⟩ := fetchOperand_eq_next.mp h
    have h1 : s.present (s.pc + 1#16) = true := h1
    refine ⟨_, 2, by decide, by decide, by simp [State.presentFrom, h0, h1], decode_data8 _ [] hf, ?_⟩
    rw [show s.pc + BitVec.ofNat 16 2 = s.pc + 1#16 + 1#16 by bv_omega]
    exact h
  · next f hf =>
    obtain ⟨h1, h⟩ := fetchOperand_eq_next.mp h
    obtain ⟨h2, h⟩ := fetchOperand_eq_next.mp h
    have h1 : s.present (s.pc + 1#16) = true := h1
    have h2 : s.present (s.pc + 1#16 + 1#16) = true := h2
    refine ⟨_, 3, by decide, by decide, by simp [State.presentFrom, h0, h1, h2], decode_data16 _ _ [] hf, ?_⟩
    rw [show s.pc + BitVec.ofNat 16 3 = s.pc + 1#16 + 1#16 + 1#16 by bv_omega]
    exact h

/-- A step that completes began in a state that is not Faulted, and is `exec` of the instruction at pc. -/
theorem step_eq_next (h : step s = .next t) :
    s.faulted = false ∧ ∃ i n, 1 ≤ n ∧ n ≤ 3 ∧ s.presentFrom s.pc n = true ∧
      decode s.params.catalogExtent (s.bytesAt s.pc n) = .ok (i, []) ∧
      exec i { s with pc := s.pc + BitVec.ofNat 16 n, events := [] } = .next t := by
  rw [step] at h
  split at h
  · cases h
  · next hf =>
    obtain ⟨i, n, h1, h3, hp, hd, h⟩ := fetchInstr_eq_next h
    rw [presentFrom_beginStep] at hp
    rw [bytesAt_beginStep] at hd
    exact ⟨by simpa using hf, i, n, h1, h3, hp, hd, h⟩

/-! ## The end of a run -/

/-- A run ends well at a HLT opcode under pc, and never in a Faulted state. -/
theorem verdict_eq_good {e : RunEnd} : e.verdict = .good ↔ ∃ u, e = .atHalt u ∧ u.faulted = false := by
  cases e <;> simp [RunEnd.verdict]

/-- What `run()` stopped at a HLT opcode says of the state it stopped in. -/
theorem run_eq_atHalt {n : Nat} (h : run n s = .atHalt t) : t.present t.pc = true ∧ t.byteAt t.pc = 0x76#8 := by
  induction n generalizing s with
  | zero => cases h
  | succ n ih =>
    rw [run] at h
    split at h
    · cases h
    · next hp =>
      split at h
      · next hb =>
        cases h
        exact ⟨by simpa using hp, hb⟩
      · split at h
        · exact ih h
        · cases h
        · cases h

end Sys2Proof.Machine
end

