-- ==== Sys2Proof/Tests/Slice0.lean ====
section
/-!
SUPPORT. The model's own tests: what the checks of WellFormed refuse, the decoding of every opcode byte, one step of each
kind of instruction against 95_test_vectors.md, and for each statement with hypotheses a witness that meets them.
-/

namespace Sys2Proof.Tests

open Sys2Proof.Machine

/-! ## Helpers -/

/-- The start of a vector: the state after reset with pc at 0400h. -/
def start : State := { State.reset with pc := 0x0400#16 }

/-- The same with A and H:L given. -/
def startAHL (a h l : Byte) : State := { start with regs := { start.regs with a := a, h := h, l := l } }

/-- Store bytes at pc. -/
def code (bytes : List Byte) (s : State) : State := s.storeBytes s.pc bytes

/-- Only the first `n` addresses are present. -/
def small (n : Nat) (s : State) : State := { s with params := { s.params with memSize := n } }

/-- The step completes in a state that passes `p`. -/
def nextIs (s : State) (p : State → Bool) : Bool :=
  match step s with
  | .next t => p t
  | .fault _ => false
  | .refused _ => false

/-- The step fails with UnknownOpcode, its byte and address, in a Faulted state with this pc. -/
def unknownAt (s : State) (op : Byte) (a pc : Word) : Bool :=
  match step s with
  | .fault (.unknownOpcode op' a' t) => op' == op && a' == a && t.pc == pc && t.faulted
  | _ => false

/-- The step fails with MemoryOutOfRange at this address, in a Faulted state with this pc. -/
def outOfRangeAt (s : State) (a pc : Word) : Bool :=
  match step s with
  | .fault (.memoryOutOfRange a' t) => a' == a && t.pc == pc && t.faulted
  | _ => false

/-- Bytes that follow the opcode byte in the decode tests: an operand byte is 34h, an operand word 1234h. -/
def decodesTo (op : Byte) (i : Instr) : Bool :=
  match decode .full [op, 0x34#8, 0x12#8] with
  | .ok (j, rest) => j == i && rest.length + (encode i).length == 3
  | .error _ => false

def decodeAll (rows : List (Byte × Instr)) : Bool := rows.all fun r => decodesTo r.1 r.2

/-! ## WellFormed refuses ill-formed terms -/

theorem test_cma_is_refused_under_docNamed : Instr.cma.wellFormed .docNamed = false := by decide

theorem test_stc_is_refused_under_docNamed : Instr.stc.wellFormed .docNamed = false := by decide

theorem test_cmc_is_refused_under_docNamed : Instr.cmc.wellFormed .docNamed = false := by decide

theorem test_no_memory_is_refused : (small 0 start).params.memSizeLegal = false := by decide

theorem test_too_much_memory_is_refused : (small 65537 start).params.memSizeLegal = false := by decide

theorem test_two_flags_on_one_bit_is_refused :
    ({ PswLayout.default with p := 0 } : PswLayout).wellFormed = false := by decide

theorem test_bad_layout_makes_bad_parameters :
    ({ Params.default with pswLayout := { PswLayout.default with s := 6 } } : Params).wellFormed = false := by decide

theorem test_default_parameters_are_legal : Params.default.wellFormed = true := by decide

/-! ## Decoding: every constructor by its byte (30_encoding.md R81, R82) -/

theorem test_decode_row_0 : decodeAll
    [(0x00#8, .nop), (0x01#8, .lxiB 0x1234#16), (0x02#8, .staxB), (0x03#8, .inxB), (0x04#8, .inrB),
     (0x05#8, .dcrB), (0x06#8, .mviB 0x34#8), (0x07#8, .rlc), (0x09#8, .dadB), (0x0A#8, .ldaxB),
     (0x0B#8, .dcxB), (0x0C#8, .inrC), (0x0D#8, .dcrC), (0x0E#8, .mviC 0x34#8), (0x0F#8, .rrc)] = true := by decide

theorem test_decode_row_1 : decodeAll
    [(0x11#8, .lxiD 0x1234#16), (0x12#8, .staxD), (0x13#8, .inxD), (0x14#8, .inrD), (0x15#8, .dcrD),
     (0x16#8, .mviD 0x34#8), (0x17#8, .ral), (0x19#8, .dadD), (0x1A#8, .ldaxD), (0x1B#8, .dcxD),
     (0x1C#8, .inrE), (0x1D#8, .dcrE), (0x1E#8, .mviE 0x34#8), (0x1F#8, .rar)] = true := by decide

theorem test_decode_row_2 : decodeAll
    [(0x20#8, .rim), (0x21#8, .lxiH 0x1234#16), (0x22#8, .shld 0x1234#16), (0x23#8, .inxH), (0x24#8, .inrH),
     (0x25#8, .dcrH), (0x26#8, .mviH 0x34#8), (0x27#8, .daa), (0x29#8, .dadH), (0x2A#8, .lhld 0x1234#16),
     (0x2B#8, .dcxH), (0x2C#8, .inrL), (0x2D#8, .dcrL), (0x2E#8, .mviL 0x34#8), (0x2F#8, .cma)] = true := by decide

theorem test_decode_row_3 : decodeAll
    [(0x30#8, .sim), (0x31#8, .lxiSP 0x1234#16), (0x32#8, .sta 0x1234#16), (0x33#8, .inxSP),
     (0x34#8, .inrM), (0x35#8, .dcrM), (0x36#8, .mviM 0x34#8), (0x37#8, .stc), (0x39#8, .dadSP),
     (0x3A#8, .lda 0x1234#16), (0x3B#8, .dcxSP), (0x3C#8, .inrA), (0x3D#8, .dcrA), (0x3E#8, .mviA 0x34#8),
     (0x3F#8, .cmc)] = true := by decide

theorem test_decode_row_4 : decodeAll
    [(0x40#8, .movBB), (0x41#8, .movBC), (0x42#8, .movBD), (0x43#8, .movBE), (0x44#8, .movBH),
     (0x45#8, .movBL), (0x46#8, .movBM), (0x47#8, .movBA), (0x48#8, .movCB), (0x49#8, .movCC),
     (0x4A#8, .movCD), (0x4B#8, .movCE), (0x4C#8, .movCH), (0x4D#8, .movCL), (0x4E#8, .movCM),
     (0x4F#8, .movCA)] = true := by decide

theorem test_decode_row_5 : decodeAll
    [(0x50#8, .movDB), (0x51#8, .movDC), (0x52#8, .movDD), (0x53#8, .movDE), (0x54#8, .movDH),
     (0x55#8, .movDL), (0x56#8, .movDM), (0x57#8, .movDA), (0x58#8, .movEB), (0x59#8, .movEC),
     (0x5A#8, .movED), (0x5B#8, .movEE), (0x5C#8, .movEH), (0x5D#8, .movEL), (0x5E#8, .movEM),
     (0x5F#8, .movEA)] = true := by decide

theorem test_decode_row_6 : decodeAll
    [(0x60#8, .movHB), (0x61#8, .movHC), (0x62#8, .movHD), (0x63#8, .movHE), (0x64#8, .movHH),
     (0x65#8, .movHL), (0x66#8, .movHM), (0x67#8, .movHA), (0x68#8, .movLB), (0x69#8, .movLC),
     (0x6A#8, .movLD), (0x6B#8, .movLE), (0x6C#8, .movLH), (0x6D#8, .movLL), (0x6E#8, .movLM),
     (0x6F#8, .movLA)] = true := by decide

theorem test_decode_row_7 : decodeAll
    [(0x70#8, .movMB), (0x71#8, .movMC), (0x72#8, .movMD), (0x73#8, .movME), (0x74#8, .movMH),
     (0x75#8, .movML), (0x76#8, .hlt), (0x77#8, .movMA), (0x78#8, .movAB), (0x79#8, .movAC),
     (0x7A#8, .movAD), (0x7B#8, .movAE), (0x7C#8, .movAH), (0x7D#8, .movAL), (0x7E#8, .movAM),
     (0x7F#8, .movAA)] = true := by decide

theorem test_decode_row_8 : decodeAll
    [(0x80#8, .addB), (0x81#8, .addC), (0x82#8, .addD), (0x83#8, .addE), (0x84#8, .addH), (0x85#8, .addL),
     (0x86#8, .addM), (0x87#8, .addA), (0x88#8, .adcB), (0x89#8, .adcC), (0x8A#8, .adcD), (0x8B#8, .adcE),
     (0x8C#8, .adcH), (0x8D#8, .adcL), (0x8E#8, .adcM), (0x8F#8, .adcA)] = true := by decide

theorem test_decode_row_9 : decodeAll
    [(0x90#8, .subB), (0x91#8, .subC), (0x92#8, .subD), (0x93#8, .subE), (0x94#8, .subH), (0x95#8, .subL),
     (0x96#8, .subM), (0x97#8, .subA), (0x98#8, .sbbB), (0x99#8, .sbbC), (0x9A#8, .sbbD), (0x9B#8, .sbbE),
     (0x9C#8, .sbbH), (0x9D#8, .sbbL), (0x9E#8, .sbbM), (0x9F#8, .sbbA)] = true := by decide

theorem test_decode_row_A : decodeAll
    [(0xA0#8, .anaB), (0xA1#8, .anaC), (0xA2#8, .anaD), (0xA3#8, .anaE), (0xA4#8, .anaH), (0xA5#8, .anaL),
     (0xA6#8, .anaM), (0xA7#8, .anaA), (0xA8#8, .xraB), (0xA9#8, .xraC), (0xAA#8, .xraD), (0xAB#8, .xraE),
     (0xAC#8, .xraH), (0xAD#8, .xraL), (0xAE#8, .xraM), (0xAF#8, .xraA)] = true := by decide

theorem test_decode_row_B : decodeAll
    [(0xB0#8, .oraB), (0xB1#8, .oraC), (0xB2#8, .oraD), (0xB3#8, .oraE), (0xB4#8, .oraH), (0xB5#8, .oraL),
     (0xB6#8, .oraM), (0xB7#8, .oraA), (0xB8#8, .cmpB), (0xB9#8, .cmpC), (0xBA#8, .cmpD), (0xBB#8, .cmpE),
     (0xBC#8, .cmpH), (0xBD#8, .cmpL), (0xBE#8, .cmpM), (0xBF#8, .cmpA)] = true := by decide

theorem test_decode_row_C : decodeAll
    [(0xC0#8, .rnz), (0xC1#8, .popB), (0xC2#8, .jnz 0x1234#16), (0xC3#8, .jmp 0x1234#16),
     (0xC4#8, .cnz 0x1234#16), (0xC5#8, .pushB), (0xC6#8, .adi 0x34#8), (0xC7#8, .rst0), (0xC8#8, .rz),
     (0xC9#8, .ret), (0xCA#8, .jz 0x1234#16), (0xCC#8, .cz 0x1234#16), (0xCD#8, .call 0x1234#16),
     (0xCE#8, .aci 0x34#8), (0xCF#8, .rst1)] = true := by decide

theorem test_decode_row_D : decodeAll
    [(0xD0#8, .rnc), (0xD1#8, .popD), (0xD2#8, .jnc 0x1234#16), (0xD3#8, .outPort 0x34#8),
     (0xD4#8, .cnc 0x1234#16), (0xD5#8, .pushD), (0xD6#8, .sui 0x34#8), (0xD7#8, .rst2), (0xD8#8, .rc),
     (0xDA#8, .jc 0x1234#16), (0xDB#8, .inPort 0x34#8), (0xDC#8, .cc 0x1234#16), (0xDE#8, .sbi 0x34#8),
     (0xDF#8, .rst3)] = true := by decide

theorem test_decode_row_E : decodeAll
    [(0xE0#8, .rpo), (0xE1#8, .popH), (0xE2#8, .jpo 0x1234#16), (0xE3#8, .xthl), (0xE4#8, .cpo 0x1234#16),
     (0xE5#8, .pushH), (0xE6#8, .ani 0x34#8), (0xE7#8, .rst4), (0xE8#8, .rpe), (0xE9#8, .pchl),
     (0xEA#8, .jpe 0x1234#16), (0xEB#8, .xchg), (0xEC#8, .cpe 0x1234#16), (0xEE#8, .xri 0x34#8),
     (0xEF#8, .rst5)] = true := by decide

theorem test_decode_row_F : decodeAll
    [(0xF0#8, .rp), (0xF1#8, .popPSW), (0xF2#8, .jp 0x1234#16), (0xF3#8, .di), (0xF4#8, .cp 0x1234#16),
     (0xF5#8, .pushPSW), (0xF6#8, .ori 0x34#8), (0xF7#8, .rst6), (0xF8#8, .rm), (0xF9#8, .sphl),
     (0xFA#8, .jm 0x1234#16), (0xFB#8, .ei), (0xFC#8, .cm 0x1234#16), (0xFE#8, .cpi 0x34#8),
     (0xFF#8, .rst7)] = true := by decide

/-- Bit by bit from the base values and spacings of R81: `01 ddd sss`, `00 ddd 110`, `00 rp 0001`, `10 ooo sss`,
`00 sss 10x`, `00 rp xx11`, `00 rp 1001`, `11 rp 0x01`, `11 ccc xxx`, `11 nnn 111`. -/
theorem test_decode_bit_patterns : decodeAll
    [(0b01011100#8, .movEH), (0b01100110#8, .movHM), (0b01110001#8, .movMC), (0b00111110#8, .mviA 0x34#8),
     (0b00110001#8, .lxiSP 0x1234#16), (0b00001010#8, .ldaxB), (0b00010010#8, .staxD), (0b10000101#8, .addL),
     (0b10001111#8, .adcA), (0b10010010#8, .subD), (0b10011110#8, .sbbM), (0b10100000#8, .anaB),
     (0b10101011#8, .xraE), (0b10110100#8, .oraH), (0b10111001#8, .cmpC), (0b00110100#8, .inrM),
     (0b00010101#8, .dcrD), (0b00100011#8, .inxH), (0b00011011#8, .dcxD), (0b00111001#8, .dadSP),
     (0b11010101#8, .pushD), (0b11110001#8, .popPSW), (0b11010010#8, .jnc 0x1234#16),
     (0b11101100#8, .cpe 0x1234#16), (0b11111000#8, .rm), (0b11101111#8, .rst5)] = true := by decide

theorem test_decode_refuses_unpopulated :
    decode .full [0x08#8] = .error (.unknownOpcode 0x08#8) := by rfl

theorem test_decode_refuses_short :
    decode .full [0x21#8, 0x05#8] = .error (.truncated 0x21#8) := by rfl

/-! ## One step, against the vectors of 95_test_vectors.md -/

/-- V-40-03, MOV E,H. -/
theorem test_mov_between_registers :
    nextIs (code [0x5C#8] { start with regs := { start.regs with h := 0x80#8 } })
      (fun t => t.reg .e == 0x80#8 && t.pc == 0x0401#16) = true := by
  decide

/-- V-40-05, MOV H,M. -/
theorem test_mov_from_memory_into_h :
    nextIs (code [0x66#8] { start with regs := { start.regs with h := 0x20#8, l := 0x50#8 }, mem := [(0x2050, 0xAB#8)] })
      (fun t => t.reg .h == 0xAB#8 && t.pc == 0x0401#16) = true := by
  decide

/-- V-40-08, MOV M,H. -/
theorem test_mov_h_to_memory :
    nextIs (code [0x74#8] { start with regs := { start.regs with h := 0x20#8, l := 0x50#8 } })
      (fun t => t.pc == 0x0401#16 && t.byteAt 0x2050#16 == 0x20#8) = true := by
  decide

/-- V-40-11, MVI C,0FFh. -/
theorem test_mvi_register :
    nextIs (code [0x0E#8, 0xFF#8] start)
      (fun t => t.reg .c == 0xFF#8 && t.pc == 0x0402#16) = true := by
  decide

/-- V-40-12, MVI M,55h. -/
theorem test_mvi_memory :
    nextIs (code [0x36#8, 0x55#8] { start with regs := { start.regs with h := 0x20#8 } })
      (fun t => t.pc == 0x0402#16 && t.byteAt 0x2000#16 == 0x55#8) = true := by
  decide

/-- V-40-14, LXI B,1234h. -/
theorem test_lxi_pair :
    nextIs (code [0x01#8, 0x34#8, 0x12#8] start)
      (fun t => t.reg .b == 0x12#8 && t.reg .c == 0x34#8 && t.pc == 0x0403#16) = true := by
  decide

/-- V-40-15, LXI SP,0FFFFh. -/
theorem test_lxi_sp :
    nextIs (code [0x31#8, 0xFF#8, 0xFF#8] start)
      (fun t => t.pc == 0x0403#16 && t.sp == 0xFFFF#16) = true := by
  decide

/-- V-40-17, LDA 5000h. -/
theorem test_lda :
    nextIs (code [0x3A#8, 0x00#8, 0x50#8] { start with mem := [(0x5000, 0x22#8)] })
      (fun t => t.reg .a == 0x22#8 && t.pc == 0x0403#16) = true := by
  decide

/-- V-40-18, STA 5000h. -/
theorem test_sta :
    nextIs (code [0x32#8, 0x00#8, 0x50#8] { start with regs := { start.regs with a := 0x44#8 } })
      (fun t => t.pc == 0x0403#16 && t.byteAt 0x5000#16 == 0x44#8) = true := by
  decide

/-- V-40-20, LHLD 0FFFFh. -/
theorem test_lhld_wraps :
    nextIs (code [0x2A#8, 0xFF#8, 0xFF#8] { start with mem := [(0x0000, 0x12#8), (0xFFFF, 0x34#8)] })
      (fun t => t.reg .h == 0x12#8 && t.reg .l == 0x34#8 && t.pc == 0x0403#16) = true := by
  decide

/-- V-40-22, SHLD 0FFFFh. -/
theorem test_shld_wraps :
    nextIs (code [0x22#8, 0xFF#8, 0xFF#8] { start with regs := { start.regs with h := 0x12#8, l := 0x34#8 } })
      (fun t => t.pc == 0x0403#16 && t.byteAt 0x0000#16 == 0x12#8 && t.byteAt 0xFFFF#16 == 0x34#8) = true := by
  decide

/-- V-40-23, LDAX D. -/
theorem test_ldax :
    nextIs (code [0x1A#8] { start with regs := { start.regs with d := 0x21#8 }, mem := [(0x2100, 0x7F#8)] })
      (fun t => t.reg .a == 0x7F#8 && t.pc == 0x0401#16) = true := by
  decide

/-- V-40-26, STAX D. -/
theorem test_stax :
    nextIs (code [0x12#8] { start with regs := { start.regs with d := 0x30#8, e := 0x01#8, a := 0xA5#8 } })
      (fun t => t.pc == 0x0401#16 && t.byteAt 0x3001#16 == 0xA5#8) = true := by
  decide

/-- V-40-27, XCHG. -/
theorem test_xchg :
    nextIs (code [0xEB#8] { start with regs := { start.regs with d := 0x12#8, e := 0x34#8, h := 0xAB#8, l := 0xCD#8 } })
      (fun t => t.reg .d == 0xAB#8 && t.reg .e == 0xCD#8 && t.reg .h == 0x12#8 && t.reg .l == 0x34#8 && t.pc == 0x0401#16) = true := by
  decide

/-- V-41-02, ADD B. -/
theorem test_add_wraps :
    nextIs (code [0x80#8] { start with regs := { start.regs with b := 0x01#8, a := 0xFF#8 } })
      (fun t => t.reg .a == 0x00#8 && t.pc == 0x0401#16 && t.flags == { s := false, z := true, ac := true, p := true, c := true }) = true := by
  decide

/-- V-41-08, ADI 00h. -/
theorem test_adi_writes_all_flags :
    nextIs (code [0xC6#8, 0x00#8] { start with flags := { start.flags with ac := true, c := true } })
      (fun t => t.pc == 0x0402#16 && t.flags == { s := false, z := true, ac := false, p := true, c := false }) = true := by
  decide

/-- V-41-12, ADC D. -/
theorem test_adc_exact_half_carry :
    nextIs (code [0x8A#8] { start with regs := { start.regs with d := 0xFF#8, a := 0x0F#8 }, flags := { start.flags with c := true } })
      (fun t => t.pc == 0x0401#16 && t.flags == { s := false, z := false, ac := true, p := true, c := false }) = true := by
  decide

/-- V-41-15, ACI 01h. -/
theorem test_aci_clears_carry :
    nextIs (code [0xCE#8, 0x01#8] { start with regs := { start.regs with a := 0xFE#8 }, flags := { start.flags with c := true } })
      (fun t => t.reg .a == 0x00#8 && t.pc == 0x0402#16 && t.flags == { s := false, z := true, ac := true, p := true, c := false }) = true := by
  decide

/-- V-41-18, SUB A. -/
theorem test_sub_equal_keeps_carry :
    nextIs (code [0x97#8] { start with regs := { start.regs with a := 0x37#8 }, flags := { start.flags with c := true } })
      (fun t => t.reg .a == 0x00#8 && t.pc == 0x0401#16 && t.flags == { s := false, z := true, ac := false, p := true, c := true }) = true := by
  decide

/-- V-41-20, SUB B. -/
theorem test_sub_borrows :
    nextIs (code [0x90#8] { start with regs := { start.regs with b := 0x01#8 } })
      (fun t => t.reg .a == 0xFF#8 && t.pc == 0x0401#16 && t.flags == { s := true, z := false, ac := true, p := true, c := true }) = true := by
  decide

/-- V-41-25, SUI 42h. -/
theorem test_sui_equal_keeps_carry :
    nextIs (code [0xD6#8, 0x42#8] { start with regs := { start.regs with a := 0x42#8 }, flags := { start.flags with c := true } })
      (fun t => t.reg .a == 0x00#8 && t.pc == 0x0402#16 && t.flags == { s := false, z := true, ac := false, p := true, c := true }) = true := by
  decide

/-- V-41-28, SBB B. -/
theorem test_sbb_equal_keeps_carry :
    nextIs (code [0x98#8] { start with regs := { start.regs with b := 0x05#8, a := 0x06#8 }, flags := { start.flags with c := true } })
      (fun t => t.reg .a == 0x00#8 && t.pc == 0x0401#16 && t.flags == { s := false, z := true, ac := false, p := true, c := true }) = true := by
  decide

/-- V-41-34, SBB B. -/
theorem test_sbb_cleared :
    nextIs (code [0x98#8] { start with regs := { start.regs with b := 0x05#8, a := 0x05#8 }, flags := { start.flags with c := true }, params := { start.params with sbbCarryMode := .cleared } })
      (fun t => t.reg .a == 0xFF#8 && t.pc == 0x0401#16 && t.flags == { s := true, z := false, ac := true, p := true, c := false }) = true := by
  decide

/-- V-41-32, SBI 00h. -/
theorem test_sbi_borrows :
    nextIs (code [0xDE#8, 0x00#8] { start with flags := { start.flags with c := true } })
      (fun t => t.reg .a == 0xFF#8 && t.pc == 0x0402#16 && t.flags == { s := true, z := false, ac := true, p := true, c := true }) = true := by
  decide

/-- V-41-41, INR A. -/
theorem test_inr_leaves_carry :
    nextIs (code [0x3C#8] { start with regs := { start.regs with a := 0xFF#8 }, flags := { start.flags with c := true } })
      (fun t => t.reg .a == 0x00#8 && t.pc == 0x0401#16 && t.flags == { s := false, z := true, ac := true, p := true, c := true }) = true := by
  decide

/-- V-41-43, INR M. -/
theorem test_inr_memory :
    nextIs (code [0x34#8] { start with regs := { start.regs with h := 0x20#8 }, mem := [(0x2000, 0x0F#8)] })
      (fun t => t.pc == 0x0401#16 && t.byteAt 0x2000#16 == 0x10#8 && t.flags == { s := false, z := false, ac := true, p := false, c := false }) = true := by
  decide

/-- V-41-46, DCR A. -/
theorem test_dcr_wraps :
    nextIs (code [0x3D#8] start)
      (fun t => t.reg .a == 0xFF#8 && t.pc == 0x0401#16 && t.flags == { s := true, z := false, ac := true, p := true, c := false }) = true := by
  decide

/-- V-41-48, DCR M. -/
theorem test_dcr_memory :
    nextIs (code [0x35#8] { start with regs := { start.regs with h := 0x20#8 }, mem := [(0x2000, 0x80#8)] })
      (fun t => t.pc == 0x0401#16 && t.byteAt 0x2000#16 == 0x7F#8 && t.flags == { s := false, z := false, ac := true, p := false, c := false }) = true := by
  decide

/-- V-41-50, INX H. -/
theorem test_inx_wraps :
    nextIs (code [0x23#8] { start with regs := { start.regs with h := 0xFF#8, l := 0xFF#8 } })
      (fun t => t.reg .h == 0x00#8 && t.reg .l == 0x00#8 && t.pc == 0x0401#16 && t.flags == { s := false, z := false, ac := false, p := false, c := false }) = true := by
  decide

/-- V-41-54, DCX SP. -/
theorem test_dcx_sp_wraps :
    nextIs (code [0x3B#8] start)
      (fun t => t.pc == 0x0401#16 && t.sp == 0xFFFF#16 && t.flags == { s := false, z := false, ac := false, p := false, c := false }) = true := by
  decide

/-- V-41-56, DAD B. -/
theorem test_dad_carries :
    nextIs (code [0x09#8] { start with regs := { start.regs with b := 0x20#8, h := 0xF0#8 } })
      (fun t => t.reg .h == 0x10#8 && t.pc == 0x0401#16 && t.flags == { s := false, z := false, ac := false, p := false, c := true }) = true := by
  decide

/-- V-41-59, DAD SP. -/
theorem test_dad_sp_zero :
    nextIs (code [0x39#8] { start with regs := { start.regs with l := 0x01#8 }, sp := 0xFFFF#16 })
      (fun t => t.reg .l == 0x00#8 && t.pc == 0x0401#16 && t.flags == { s := false, z := false, ac := false, p := false, c := true }) = true := by
  decide

/-- V-41-61, DAA. -/
theorem test_daa_corrects_both :
    nextIs (code [0x27#8] { start with regs := { start.regs with a := 0x9A#8 } })
      (fun t => t.reg .a == 0x00#8 && t.pc == 0x0401#16 && t.flags == { s := false, z := true, ac := true, p := true, c := true }) = true := by
  decide

/-- V-41-67, DAA. -/
theorem test_daa_stub :
    nextIs (code [0x27#8] { start with regs := { start.regs with a := 0x9A#8 }, params := { start.params with daaMode := .stub } })
      (fun t => t.pc == 0x0401#16 && t.flags == { s := false, z := false, ac := false, p := false, c := false }) = true := by
  decide

/-- V-42-01, ANA B. -/
theorem test_ana :
    nextIs (code [0xA0#8] { start with regs := { start.regs with b := 0x3C#8, a := 0xF0#8 } })
      (fun t => t.reg .a == 0x30#8 && t.pc == 0x0401#16 && t.flags == { s := false, z := false, ac := true, p := true, c := false }) = true := by
  decide

/-- V-42-04, ANI 0Fh. -/
theorem test_ani :
    nextIs (code [0xE6#8, 0x0F#8] { start with regs := { start.regs with a := 0xF0#8 } })
      (fun t => t.reg .a == 0x00#8 && t.pc == 0x0402#16 && t.flags == { s := false, z := true, ac := true, p := true, c := false }) = true := by
  decide

/-- V-42-06, XRA B. -/
theorem test_xra :
    nextIs (code [0xA8#8] { start with regs := { start.regs with b := 0x0F#8, a := 0xFF#8 }, flags := { start.flags with ac := true } })
      (fun t => t.reg .a == 0xF0#8 && t.pc == 0x0401#16 && t.flags == { s := true, z := false, ac := false, p := true, c := false }) = true := by
  decide

/-- V-42-07, XRI 0FFh. -/
theorem test_xri :
    nextIs (code [0xEE#8, 0xFF#8] { start with regs := { start.regs with a := 0x0F#8 } })
      (fun t => t.reg .a == 0xF0#8 && t.pc == 0x0402#16 && t.flags == { s := true, z := false, ac := false, p := true, c := false }) = true := by
  decide

/-- V-42-09, ORA M. -/
theorem test_ora_memory :
    nextIs (code [0xB6#8] { start with regs := { start.regs with h := 0x20#8, a := 0x01#8 }, flags := { start.flags with ac := true, c := true }, mem := [(0x2000, 0x0E#8)] })
      (fun t => t.reg .a == 0x0F#8 && t.pc == 0x0401#16 && t.flags == { s := false, z := false, ac := false, p := true, c := false }) = true := by
  decide

/-- V-42-10, ORI 00h. -/
theorem test_ori :
    nextIs (code [0xF6#8, 0x00#8] { start with regs := { start.regs with a := 0x07#8 } })
      (fun t => t.pc == 0x0402#16 && t.flags == { s := false, z := false, ac := false, p := false, c := false }) = true := by
  decide

/-- V-42-11, CMP B. -/
theorem test_cmp_equal_keeps_carry :
    nextIs (code [0xB8#8] { start with regs := { start.regs with b := 0x42#8, a := 0x42#8 }, flags := { start.flags with c := true } })
      (fun t => t.pc == 0x0401#16 && t.flags == { s := false, z := true, ac := false, p := true, c := true }) = true := by
  decide

/-- V-42-13, CMP B. -/
theorem test_cmp_less :
    nextIs (code [0xB8#8] { start with regs := { start.regs with b := 0x20#8, a := 0x10#8 } })
      (fun t => t.pc == 0x0401#16 && t.flags == { s := true, z := false, ac := false, p := true, c := true }) = true := by
  decide

/-- V-42-18, CPI 43h. -/
theorem test_cpi_less :
    nextIs (code [0xFE#8, 0x43#8] { start with regs := { start.regs with a := 0x42#8 } })
      (fun t => t.pc == 0x0402#16 && t.flags == { s := true, z := false, ac := true, p := true, c := true }) = true := by
  decide

/-- V-42-20, RLC. -/
theorem test_rlc :
    nextIs (code [0x07#8] { start with regs := { start.regs with a := 0x85#8 } })
      (fun t => t.reg .a == 0x0B#8 && t.pc == 0x0401#16 && t.flags == { s := false, z := false, ac := false, p := false, c := true }) = true := by
  decide

/-- V-42-23, RRC. -/
theorem test_rrc :
    nextIs (code [0x0F#8] { start with regs := { start.regs with a := 0xFE#8 }, flags := { start.flags with c := true } })
      (fun t => t.reg .a == 0x7F#8 && t.pc == 0x0401#16 && t.flags == { s := false, z := false, ac := false, p := false, c := false }) = true := by
  decide

/-- V-42-25, RAL. -/
theorem test_ral :
    nextIs (code [0x17#8] { start with regs := { start.regs with a := 0x01#8 }, flags := { start.flags with c := true } })
      (fun t => t.reg .a == 0x03#8 && t.pc == 0x0401#16 && t.flags == { s := false, z := false, ac := false, p := false, c := false }) = true := by
  decide

/-- V-42-26, RAR. -/
theorem test_rar :
    nextIs (code [0x1F#8] { start with regs := { start.regs with a := 0x02#8 }, flags := { start.flags with c := true } })
      (fun t => t.reg .a == 0x81#8 && t.pc == 0x0401#16 && t.flags == { s := false, z := false, ac := false, p := false, c := false }) = true := by
  decide

/-- V-42-28, CMA. -/
theorem test_cma :
    nextIs (code [0x2F#8] { start with regs := { start.regs with a := 0x51#8 } })
      (fun t => t.reg .a == 0xAE#8 && t.pc == 0x0401#16 && t.flags == { s := false, z := false, ac := false, p := false, c := false }) = true := by
  decide

/-- V-42-30, STC. -/
theorem test_stc :
    nextIs (code [0x37#8] start)
      (fun t => t.pc == 0x0401#16 && t.flags == { s := false, z := false, ac := false, p := false, c := true }) = true := by
  decide

/-- V-42-32, CMC. -/
theorem test_cmc :
    nextIs (code [0x3F#8] { start with flags := { start.flags with z := true } })
      (fun t => t.pc == 0x0401#16 && t.flags == { s := false, z := true, ac := false, p := false, c := true }) = true := by
  decide

/-- V-43-03, PUSH D. -/
theorem test_push_straddles_top :
    nextIs (code [0xD5#8] { start with regs := { start.regs with d := 0xAB#8, e := 0xCD#8 }, sp := 0x0001#16 })
      (fun t => t.pc == 0x0401#16 && t.sp == 0xFFFF#16 && t.byteAt 0x0000#16 == 0xCD#8 && t.byteAt 0xFFFF#16 == 0xAB#8) = true := by
  decide

/-- V-43-05, PUSH PSW. -/
theorem test_push_psw :
    nextIs (code [0xF5#8] { start with regs := { start.regs with a := 0x9D#8 }, flags := { start.flags with s := true, c := true }, sp := 0x2000#16 })
      (fun t => t.pc == 0x0401#16 && t.sp == 0x1FFE#16 && t.byteAt 0x1FFE#16 == 0x9D#8 && t.byteAt 0x1FFF#16 == 0x81#8 && t.flags == { s := true, z := false, ac := false, p := false, c := true }) = true := by
  decide

/-- V-43-07, POP D. -/
theorem test_pop :
    nextIs (code [0xD1#8] { start with sp := 0x1FFE#16, mem := [(0x1FFE, 0x12#8), (0x1FFF, 0x34#8)] })
      (fun t => t.reg .d == 0x12#8 && t.reg .e == 0x34#8 && t.pc == 0x0401#16 && t.sp == 0x2000#16) = true := by
  decide

/-- V-43-11, POP PSW. -/
theorem test_pop_psw_ignores_unused :
    nextIs (code [0xF1#8] { start with flags := { start.flags with s := true, z := true, ac := true, p := true, c := true }, sp := 0x1FFE#16, mem := [(0x1FFF, 0x2A#8)] })
      (fun t => t.pc == 0x0401#16 && t.sp == 0x2000#16 && t.flags == { s := false, z := false, ac := false, p := false, c := false }) = true := by
  decide

/-- V-43-12, XTHL. -/
theorem test_xthl :
    nextIs (code [0xE3#8] { start with regs := { start.regs with h := 0x12#8, l := 0x34#8 }, sp := 0x1FFE#16, mem := [(0x1FFE, 0xAB#8), (0x1FFF, 0xCD#8)] })
      (fun t => t.reg .h == 0xAB#8 && t.reg .l == 0xCD#8 && t.pc == 0x0401#16 && t.byteAt 0x1FFE#16 == 0x12#8 && t.byteAt 0x1FFF#16 == 0x34#8) = true := by
  decide

/-- V-43-13, SPHL. -/
theorem test_sphl :
    nextIs (code [0xF9#8] { start with regs := { start.regs with h := 0x3F#8, l := 0xFF#8 } })
      (fun t => t.pc == 0x0401#16 && t.sp == 0x3FFF#16) = true := by
  decide

/-- V-44-02, JMP 1234h. -/
theorem test_jmp :
    nextIs (code [0xC3#8, 0x34#8, 0x12#8] start)
      (fun t => t.pc == 0x1234#16) = true := by
  decide

/-- V-44-03, JNZ 0500h. -/
theorem test_jnz_taken :
    nextIs (code [0xC2#8, 0x00#8, 0x05#8] start)
      (fun t => t.pc == 0x0500#16) = true := by
  decide

/-- V-44-04, JNZ 0500h. -/
theorem test_jnz_not_taken :
    nextIs (code [0xC2#8, 0x00#8, 0x05#8] { start with flags := { start.flags with z := true } })
      (fun t => t.pc == 0x0403#16) = true := by
  decide

/-- V-44-09, JC 0500h. -/
theorem test_jc_taken :
    nextIs (code [0xDA#8, 0x00#8, 0x05#8] { start with flags := { start.flags with c := true } })
      (fun t => t.pc == 0x0500#16) = true := by
  decide

/-- V-44-14, JPE 0500h. -/
theorem test_jpe_not_taken :
    nextIs (code [0xEA#8, 0x00#8, 0x05#8] start)
      (fun t => t.pc == 0x0403#16) = true := by
  decide

/-- V-44-17, JM 0500h. -/
theorem test_jm_taken :
    nextIs (code [0xFA#8, 0x00#8, 0x05#8] { start with flags := { start.flags with s := true } })
      (fun t => t.pc == 0x0500#16) = true := by
  decide

/-- V-44-19, CALL 0500h. -/
theorem test_call :
    nextIs (code [0xCD#8, 0x00#8, 0x05#8] { start with sp := 0x2000#16 })
      (fun t => t.pc == 0x0500#16 && t.sp == 0x1FFE#16 && t.byteAt 0x1FFE#16 == 0x04#8 && t.byteAt 0x1FFF#16 == 0x03#8) = true := by
  decide

/-- V-44-23, CZ 0500h. -/
theorem test_cz_taken :
    nextIs (code [0xCC#8, 0x00#8, 0x05#8] { start with flags := { start.flags with z := true }, sp := 0x2000#16 })
      (fun t => t.pc == 0x0500#16 && t.sp == 0x1FFE#16 && t.byteAt 0x1FFE#16 == 0x04#8 && t.byteAt 0x1FFF#16 == 0x03#8) = true := by
  decide

/-- V-44-28, CC 0500h. -/
theorem test_cc_not_taken :
    nextIs (code [0xDC#8, 0x00#8, 0x05#8] { start with sp := 0x2000#16 })
      (fun t => t.pc == 0x0403#16) = true := by
  decide

/-- V-44-37, RET. -/
theorem test_ret :
    nextIs (code [0xC9#8] { start with sp := 0x1FFE#16, mem := [(0x1FFE, 0x04#8), (0x1FFF, 0x03#8)] })
      (fun t => t.pc == 0x0403#16 && t.sp == 0x2000#16) = true := by
  decide

/-- V-44-41, RZ. -/
theorem test_rz_taken :
    nextIs (code [0xC8#8] { start with flags := { start.flags with z := true }, sp := 0x1FFE#16, mem := [(0x1FFE, 0x12#8), (0x1FFF, 0x34#8)] })
      (fun t => t.pc == 0x1234#16 && t.sp == 0x2000#16) = true := by
  decide

/-- V-44-52, RP. -/
theorem test_rp_not_taken :
    nextIs (code [0xF0#8] { start with flags := { start.flags with s := true }, sp := 0x1FFE#16, mem := [(0x1FFE, 0x12#8), (0x1FFF, 0x34#8)] })
      (fun t => t.pc == 0x0401#16) = true := by
  decide

/-- V-44-60, RST 5. -/
theorem test_rst_five :
    nextIs (code [0xEF#8] { start with sp := 0x2000#16 })
      (fun t => t.pc == 0x0028#16 && t.sp == 0x1FFE#16 && t.byteAt 0x1FFE#16 == 0x04#8 && t.byteAt 0x1FFF#16 == 0x01#8) = true := by
  decide

/-- V-44-63, PCHL. -/
theorem test_pchl :
    nextIs (code [0xE9#8] { start with regs := { start.regs with h := 0x04#8, l := 0x50#8 } })
      (fun t => t.pc == 0x0450#16) = true := by
  decide

/-- V-45-01, NOP. -/
theorem test_nop :
    nextIs (code [0x00#8] { start with regs := { start.regs with a := 0x12#8 }, flags := { start.flags with s := true, z := true, ac := true, p := true, c := true } })
      (fun t => t.pc == 0x0401#16) = true := by
  decide

/-- V-45-02, HLT. -/
theorem test_hlt :
    nextIs (code [0x76#8] { start with regs := { start.regs with a := 0x12#8 } })
      (fun t => t.pc == 0x0401#16 && t.events == [.halted]) = true := by
  decide

/-- V-45-03, EI. -/
theorem test_ei :
    nextIs (code [0xFB#8] start)
      (fun t => t.pc == 0x0401#16 && t.im == 0x08#8) = true := by
  decide

/-- V-45-05, DI. -/
theorem test_di :
    nextIs (code [0xF3#8] { start with im := 0x0F#8 })
      (fun t => t.pc == 0x0401#16 && t.im == 0x07#8) = true := by
  decide

/-- V-45-07, SIM. -/
theorem test_sim_standard :
    nextIs (code [0x30#8] { start with regs := { start.regs with a := 0x0D#8 }, params := { start.params with imModel := .standard8085 } })
      (fun t => t.pc == 0x0401#16 && t.im == 0x05#8) = true := by
  decide

/-- V-45-09, SIM. -/
theorem test_sim_literal :
    nextIs (code [0x30#8] { start with regs := { start.regs with a := 0xF7#8 } })
      (fun t => t.pc == 0x0401#16 && t.im == 0xF7#8) = true := by
  decide

/-- V-45-10, RIM. -/
theorem test_rim :
    nextIs (code [0x20#8] { start with regs := { start.regs with a := 0xFF#8 }, im := 0x08#8 })
      (fun t => t.reg .a == 0x08#8 && t.pc == 0x0401#16) = true := by
  decide

/-- V-45-12, OUT 02h. -/
theorem test_out :
    nextIs (code [0xD3#8, 0x02#8] { start with regs := { start.regs with a := 0x55#8 } })
      (fun t => t.pc == 0x0402#16 && t.events == [.ioOut 0x02#8 0x55#8]) = true := by
  decide

/-- V-45-11: the draw, a free value, goes to A. -/
theorem test_in : nextIs (code [0xDB#8, 0x01#8] start)
    (fun t => t.reg .a == Config.ioIn 0 0x01#8 && t.draws == 1) = true := by
  show (Config.ioIn 0 0x01#8 == Config.ioIn 0 0x01#8 && true) = true
  simp

/-- V-30-01: operand bytes wrap round the top of memory. -/
theorem test_fetch_wraps : nextIs (code [0x21#8, 0x34#8, 0x12#8] { start with pc := 0xFFFE#16 })
    (fun t => t.reg .h == 0x12#8 && t.reg .l == 0x34#8 && t.pc == 0x0001#16) = true := by decide

/-- V-60-01. -/
theorem test_unknown_opcode : unknownAt (code [0x08#8] start) 0x08#8 0x0400#16 0x0401#16 = true := by decide

/-- V-60-12. -/
theorem test_unknown_opcode_docNamed :
    unknownAt (code [0x3F#8] { start with params := { start.params with catalogExtent := .docNamed } })
      0x3F#8 0x0400#16 0x0401#16 = true := by decide

/-- V-X-01. -/
theorem test_read_out_of_range :
    outOfRangeAt (small 0x1000 (code [0x3A#8, 0x00#8, 0x20#8] start)) 0x2000#16 0x0403#16 = true := by decide

/-- V-X-02. -/
theorem test_fetch_out_of_range :
    failsAt (step (small 0x1000 (code [0x3E#8] { start with pc := 0x0FFF#16 }))) 0x1000#16 := ⟨_, rfl, rfl⟩

/-- V-X-03. -/
theorem test_write_out_of_range :
    outOfRangeAt (small 0x1000 (code [0x77#8] (startAHL 0x9D#8 0x10#8 0x00#8))) 0x1000#16 0x0401#16 = true := by decide

/-- V-X-04. -/
theorem test_faulted_does_not_step :
    step { start with faulted := true } = .fault (.alreadyFaulted { start with faulted := true }) := by rfl

/-- V-X-05. -/
theorem test_run_past_end :
    run 1 (small 0x1000 { start with pc := 0x1000#16 }) = .pastEnd (small 0x1000 { start with pc := 0x1000#16 }) := by
  decide

/-- V-X-06. -/
theorem test_run_at_halt : run 1 (code [0x76#8] start) = .atHalt (code [0x76#8] start) := by decide

/-- R327: a Faulted engine with 76 under pc (bytes 08 76 after the failure) does not end well; one that is not does. -/
theorem test_faulted_run_is_no_good_end :
    (run 1 (code [0x76#8] { start with faulted := true })).verdict ≠ .good ∧
      (run 1 (code [0x76#8] start)).verdict = .good := by decide

/-- R322: a load that would pass MEM_SIZE is refused. -/
theorem test_setMemory_past_end : setMemory 0x0FFF#16 [0x01#8, 0x02#8] (small 0x1000 start) = none := by decide

/-- R325: a flag and the low byte of a value written by index read back. -/
theorem test_host_index :
    (hostWrite start (.register .b) 0x1FF).map (fun t => hostRead t (.register .b)) = some (some 0xFF) := by decide

/-- The host's two readings of a word: the decoder's and the next step's (E2, LXI H,3005h). -/
theorem test_table_word : decodeTableWord 24 0x300521 = some (.lxiH 0x3005#16) := by decide

theorem test_withFetchWord :
    nextIs (State.reset.withFetchWord 24 0x300521) (fun t => t.reg .h == 0x30#8 && t.reg .l == 0x05#8) = true := by decide

/-! ## Witnesses: a state and operands for every hypothesis, one for each clause, at the edge of its range

With `small 0x1000` the last present address is 0FFFh and the first absent one 1000h. -/

/-- 1000h addresses; H:L, sp and B:C as given. -/
def edge (hl sp : Word) : State :=
  small 0x1000 { start with sp := sp, regs := { start.regs with h := hiByte hl, l := loByte hl, b := hiByte hl, c := loByte hl } }

theorem witness_DecodeInvertsEncode :
    Instr.cma.wellFormed .full = true ∧ (Instr.lxiSP 0xFFFF#16).wellFormed .docNamed = true := by decide

theorem witness_EncodeInvertsDecode : decode .docNamed [0x3E#8, 0xFF#8, 0x2F#8] = .ok (.mviA 0xFF#8, [0x2F#8]) := by rfl

theorem witness_OpcodeByteDecidesLength :
    decode .full (0x3E#8 :: [0x01#8]) = .ok (.mviA 0x01#8, []) ∧
      decode .docNamed (0x3E#8 :: [0x02#8, 0x03#8]) = .ok (.mviA 0x02#8, [0x03#8]) := ⟨rfl, rfl⟩

theorem witness_StepRunsDecodedInstruction :
    let s := small 0x1000 (code [0x3E#8, 0x77#8] { start with pc := 0x0FFE#16 })
    s.faulted = false ∧ decode s.params.catalogExtent (s.bytesAt s.pc 3) = .ok (.mviA 0x77#8, [0x00#8]) ∧
      s.presentFrom s.pc (encode (.mviA 0x77#8)).length = true := ⟨rfl, rfl, rfl⟩

theorem witness_StepFailsOnUnpopulatedOpcode :
    let s := code [0xFD#8] start
    s.faulted = false ∧ s.present s.pc = true ∧
      catalogByByte s.params.catalogExtent (s.byteAt s.pc) = none := ⟨rfl, rfl, rfl⟩

theorem witness_FaultedStateHasNoTransition :
    ({ start with faulted := true } : State).faulted = true ∧ start.faulted = false := ⟨rfl, rfl⟩

/-- The four clauses: the opcode, the one operand byte, the first and the second of two. -/
theorem witness_FetchBeyondMemoryFails :
    let s0 := small 0x1000 { start with pc := 0x1000#16 }
    let s1 := small 0x1000 (code [0x3E#8] { start with pc := 0x0FFF#16 })
    let s2 := small 0x1000 (code [0x21#8] { start with pc := 0x0FFF#16 })
    let s3 := small 0x1000 (code [0x21#8, 0x05#8] { start with pc := 0x0FFE#16 })
    (s0.faulted = false ∧ s0.present s0.pc = false) ∧
    (s1.faulted = false ∧ s1.present s1.pc = true ∧ s1.present (s1.pc + 1#16) = false ∧
      catalogByByte s1.params.catalogExtent (s1.byteAt s1.pc) = some (.data8 .mviA)) ∧
    (s2.faulted = false ∧ s2.present s2.pc = true ∧ s2.present (s2.pc + 1#16) = false ∧
      catalogByByte s2.params.catalogExtent (s2.byteAt s2.pc) = some (.data16 .lxiH)) ∧
    (s3.faulted = false ∧ s3.present s3.pc = true ∧ s3.present (s3.pc + 1#16) = true ∧
      s3.present (s3.pc + 2#16) = false ∧
      catalogByByte s3.params.catalogExtent (s3.byteAt s3.pc) = some (.data16 .lxiH)) :=
  ⟨⟨rfl, rfl⟩, ⟨rfl, rfl, rfl, rfl⟩, ⟨rfl, rfl, rfl, rfl⟩, ⟨rfl, rfl, rfl, rfl, rfl⟩⟩

theorem witness_FullMemoryIsNeverOutOfRange : start.params.memSize = 65536 := rfl

theorem witness_EveryInstructionCompletesInFullMemory : start.params.memSize = 65536 := rfl

theorem witness_StepKeepsInvariant :
    Inv (code [0xC5#8] { start with sp := 0x2000#16 }) ∧
      nextIs (code [0xC5#8] { start with sp := 0x2000#16 }) (fun _ => true) = true := by decide

theorem witness_ConstructionMeetsInvariant :
    let p : Params := { Params.default with imModel := .standard8085, memSize := 1 }
    p.wellFormed = true ∧ ({ ResetState.default with im := 0x0F#8 } : ResetState).im &&& ~~~(imImplemented p.imModel) = 0#8 := by
  decide

theorem witness_MachineControlTouchesOnlyItsState :
    opcodeOf (.inPort 0x01#8) ∈ [0x00#8, 0x76#8, 0xFB#8, 0xF3#8, 0x30#8, 0x20#8, 0xDB#8, 0xD3#8] ∧
      opcodeOf (.inPort 0x01#8) ∉ [0xFB#8, 0xF3#8, 0x30#8, 0x20#8] ∧
      opcodeOf .rim ∉ [0xDB#8, 0xD3#8] ∧ exec .rim start = .next (start.setReg .a 0x00#8) := by
  refine ⟨by decide, by decide, by decide, rfl⟩

theorem witness_InterruptMaskNeverSteersExecution :
    nextIs (code [0x20#8] { start with im := 0x08#8 }) (fun _ => true) = true ∧
      (Reg.b ≠ .a ∨ (code [0x20#8] start).byteAt (code [0x20#8] start).pc ≠ 0x20#8) ∧
      (Reg.a ≠ .a ∨ start.byteAt start.pc ≠ 0x20#8) := by decide

/-- XCHG writes neither register. -/
theorem witness_WritersOfProgramCounterAndStackPointer :
    (∃ t, exec .xchg start = .next t) ∧
    opcodeOf .xchg ∉
      [0xC3#8, 0xE9#8, 0xCD#8, 0xC9#8,
       0xC2#8, 0xCA#8, 0xD2#8, 0xDA#8, 0xE2#8, 0xEA#8, 0xF2#8, 0xFA#8,
       0xC4#8, 0xCC#8, 0xD4#8, 0xDC#8, 0xE4#8, 0xEC#8, 0xF4#8, 0xFC#8,
       0xC0#8, 0xC8#8, 0xD0#8, 0xD8#8, 0xE0#8, 0xE8#8, 0xF0#8, 0xF8#8,
       0xC7#8, 0xCF#8, 0xD7#8, 0xDF#8, 0xE7#8, 0xEF#8, 0xF7#8, 0xFF#8] ∧
    opcodeOf .xchg ∉
      [0x31#8, 0x33#8, 0x3B#8, 0xF9#8, 0xC5#8, 0xD5#8, 0xE5#8, 0xF5#8, 0xC1#8, 0xD1#8, 0xE1#8, 0xF1#8,
       0xCD#8, 0xC4#8, 0xCC#8, 0xD4#8, 0xDC#8, 0xE4#8, 0xEC#8, 0xF4#8, 0xFC#8,
       0xC9#8, 0xC0#8, 0xC8#8, 0xD0#8, 0xD8#8, 0xE0#8, 0xE8#8, 0xF0#8, 0xF8#8,
       0xC7#8, 0xCF#8, 0xD7#8, 0xDF#8, 0xE7#8, 0xEF#8, 0xF7#8, 0xFF#8] :=
  ⟨⟨_, rfl⟩, by decide, by decide⟩

theorem witness_OnlyStoringInstructionsChangeMemory :
    (∃ t, exec .addM start = .next t) ∧
    opcodeOf .addM ∉
      [0x70#8, 0x71#8, 0x72#8, 0x73#8, 0x74#8, 0x75#8, 0x77#8, 0x36#8, 0x34#8, 0x35#8,
       0x32#8, 0x02#8, 0x12#8, 0x22#8, 0xC5#8, 0xD5#8, 0xE5#8, 0xF5#8, 0xCD#8, 0xE3#8,
       0xC4#8, 0xCC#8, 0xD4#8, 0xDC#8, 0xE4#8, 0xEC#8, 0xF4#8, 0xFC#8,
       0xC7#8, 0xCF#8, 0xD7#8, 0xDF#8, 0xE7#8, 0xEF#8, 0xF7#8, 0xFF#8] :=
  ⟨⟨_, rfl⟩, by decide⟩

/-- One instruction for each clause: CMA, INR M and DAD SP. -/
theorem witness_WritersOfFlags :
    ((∃ t, exec .cma start = .next t) ∧
      opcodeOf .cma ∉
        [0x04#8, 0x0C#8, 0x14#8, 0x1C#8, 0x24#8, 0x2C#8, 0x34#8, 0x3C#8,
         0x05#8, 0x0D#8, 0x15#8, 0x1D#8, 0x25#8, 0x2D#8, 0x35#8, 0x3D#8,
         0x09#8, 0x19#8, 0x29#8, 0x39#8, 0x07#8, 0x0F#8, 0x17#8, 0x1F#8, 0x27#8, 0x37#8, 0x3F#8,
         0xC6#8, 0xCE#8, 0xD6#8, 0xDE#8, 0xE6#8, 0xEE#8, 0xF6#8, 0xFE#8, 0xF1#8] ∧
      (opcodeOf .cma).toNat / 64 ≠ 2) ∧
    ((∃ t, exec .inrM start = .next t) ∧
      opcodeOf .inrM ∈
        [0x04#8, 0x0C#8, 0x14#8, 0x1C#8, 0x24#8, 0x2C#8, 0x34#8, 0x3C#8,
         0x05#8, 0x0D#8, 0x15#8, 0x1D#8, 0x25#8, 0x2D#8, 0x35#8, 0x3D#8]) ∧
    (∃ t, exec .dadSP start = .next t) ∧
      opcodeOf .dadSP ∈ [0x09#8, 0x19#8, 0x29#8, 0x39#8, 0x07#8, 0x0F#8, 0x17#8, 0x1F#8, 0x37#8, 0x3F#8] :=
  ⟨⟨⟨_, rfl⟩, by decide, by decide⟩, ⟨⟨_, rfl⟩, by decide⟩, ⟨_, rfl⟩, by decide⟩

theorem witness_MovBetweenRegisters : (Reg.b = Reg.b) := rfl

theorem witness_MovFromMemory :
    (edge 0x0FFF#16 0#16).present (edge 0x0FFF#16 0#16).hl = true ∧
      (edge 0x1000#16 0#16).present (edge 0x1000#16 0#16).hl = false := by decide

theorem witness_MovAndMviToMemory :
    let s := edge 0x0FFF#16 0#16
    let u := edge 0x1000#16 0#16
    ((∃ src : Reg, Instr.movMA = .movMemReg src ∧ 0x00#8 = s.reg src) ∨ Instr.movMA = .mvi .m 0x00#8) ∧
    ((∃ src : Reg, Instr.mviM 0x55#8 = .movMemReg src ∧ 0x55#8 = s.reg src) ∨ Instr.mviM 0x55#8 = .mvi .m 0x55#8) ∧
    (s.mem.wf = true ∧ s.present s.hl = true) ∧ u.present u.hl = false :=
  ⟨.inl ⟨.a, rfl, rfl⟩, .inr rfl, ⟨rfl, rfl⟩, rfl⟩

theorem witness_LoadAccumulator :
    let s := edge 0x0FFF#16 0#16
    let u := edge 0x1000#16 0#16
    (Instr.lda 0x0FFF#16 = .lda 0x0FFF#16 ∨ ∃ p : PairBD, Instr.lda 0x0FFF#16 = .ldax p ∧ 0x0FFF#16 = s.pair p.toPair) ∧
    (Instr.ldaxB = .lda 0x0FFF#16 ∨ ∃ p : PairBD, Instr.ldaxB = .ldax p ∧ 0x0FFF#16 = s.pair p.toPair) ∧
    s.present 0x0FFF#16 = true ∧
    (Instr.ldaxB = .lda 0x1000#16 ∨ ∃ p : PairBD, Instr.ldaxB = .ldax p ∧ 0x1000#16 = u.pair p.toPair) ∧
    u.present 0x1000#16 = false :=
  ⟨.inl rfl, .inr ⟨.b, rfl, rfl⟩, rfl, .inr ⟨.b, rfl, rfl⟩, rfl⟩

theorem witness_StoreAccumulator :
    let s := edge 0x0FFF#16 0#16
    let u := edge 0x1000#16 0#16
    (Instr.sta 0x0FFF#16 = .sta 0x0FFF#16 ∨ ∃ p : PairBD, Instr.sta 0x0FFF#16 = .stax p ∧ 0x0FFF#16 = s.pair p.toPair) ∧
    (Instr.staxB = .sta 0x0FFF#16 ∨ ∃ p : PairBD, Instr.staxB = .stax p ∧ 0x0FFF#16 = s.pair p.toPair) ∧
    (s.mem.wf = true ∧ s.present 0x0FFF#16 = true) ∧
    (Instr.staxB = .sta 0x1000#16 ∨ ∃ p : PairBD, Instr.staxB = .stax p ∧ 0x1000#16 = u.pair p.toPair) ∧
    u.present 0x1000#16 = false :=
  ⟨.inl rfl, .inr ⟨.b, rfl, rfl⟩, ⟨rfl, rfl⟩, .inr ⟨.b, rfl, rfl⟩, rfl⟩

/-- Both bytes present, the first absent, only the second absent. -/
theorem witness_LhldLoadsLowByteFirst :
    let s := small 0x1000 start
    (s.present 0x0FFE#16 = true ∧ s.present (0x0FFE#16 + 1#16) = true) ∧ s.present 0x1000#16 = false ∧
      (s.present 0x0FFF#16 = true ∧ s.present (0x0FFF#16 + 1#16) = false) := by decide

theorem witness_ShldStoresLowByteFirst :
    let s := small 0x1000 start
    (s.mem.wf = true ∧ s.present 0x0FFE#16 = true ∧ s.present (0x0FFE#16 + 1#16) = true) ∧
      s.present 0x1000#16 = false ∧ (s.present 0x0FFF#16 = true ∧ s.present (0x0FFF#16 + 1#16) = false) := by decide

theorem witness_AddWritesSumAndAllFlags :
    let s := edge 0x0FFF#16 0#16
    ((∃ o : Operand8, Instr.addM = .add o ∧ s.operandPresent o = true ∧ 0x00#8 = s.operand o) ∨ Instr.addM = .adi 0x00#8) ∧
    ((∃ o : Operand8, Instr.adi 0xFF#8 = .add o ∧ s.operandPresent o = true ∧ 0xFF#8 = s.operand o) ∨
      Instr.adi 0xFF#8 = .adi 0xFF#8) ∧
    (edge 0x1000#16 0#16).present (edge 0x1000#16 0#16).hl = false :=
  ⟨.inl ⟨.m, rfl, rfl, rfl⟩, .inr rfl, rfl⟩

theorem witness_AdcAddsCarryAndClearsIt :
    let s := edge 0x0FFF#16 0#16
    ((∃ o : Operand8, Instr.adcM = .adc o ∧ s.operandPresent o = true ∧ 0x00#8 = s.operand o) ∨ Instr.adcM = .aci 0x00#8) ∧
    ((∃ o : Operand8, Instr.aci 0xFF#8 = .adc o ∧ s.operandPresent o = true ∧ 0xFF#8 = s.operand o) ∨
      Instr.aci 0xFF#8 = .aci 0xFF#8) ∧
    (edge 0x1000#16 0#16).present (edge 0x1000#16 0#16).hl = false :=
  ⟨.inl ⟨.m, rfl, rfl, rfl⟩, .inr rfl, rfl⟩

/-- The three cases of F.C: less by one, equal, greater by one. -/
theorem witness_SubKeepsCarryWhenEqual :
    let s := edge 0x0FFF#16 0#16
    let u := startAHL 0x01#8 0x00#8 0x00#8
    ((∃ o : Operand8, Instr.subM = .sub o ∧ s.operandPresent o = true ∧ 0x00#8 = s.operand o) ∨ Instr.subM = .sui 0x00#8) ∧
    (s.reg .a).toNat = (0x00#8 : Byte).toNat ∧
    ((∃ o : Operand8, Instr.sui 0x01#8 = .sub o ∧ s.operandPresent o = true ∧ 0x01#8 = s.operand o) ∨
      Instr.sui 0x01#8 = .sui 0x01#8) ∧
    (s.reg .a).toNat < (0x01#8 : Byte).toNat ∧ (u.reg .a).toNat > (0x00#8 : Byte).toNat ∧
    (edge 0x1000#16 0#16).present (edge 0x1000#16 0#16).hl = false :=
  ⟨.inl ⟨.m, rfl, rfl, rfl⟩, rfl, .inr rfl, by decide, by decide, rfl⟩

/-- Both modes, and the three cases of F.C with the carry in. -/
theorem witness_SbbFollowsCarryMode :
    let s := edge 0x0FFF#16 0#16
    let u := { startAHL 0x01#8 0x00#8 0x00#8 with flags := { start.flags with c := true } }
    let x := { startAHL 0x02#8 0x00#8 0x00#8 with flags := { start.flags with c := true } }
    let y := { s with params := { s.params with sbbCarryMode := .cleared } }
    ((∃ o : Operand8, Instr.sbbM = .sbb o ∧ s.operandPresent o = true ∧ 0x00#8 = s.operand o) ∨ Instr.sbbM = .sbi 0x00#8) ∧
    ((∃ o : Operand8, Instr.sbi 0x01#8 = .sbb o ∧ u.operandPresent o = true ∧ 0x01#8 = u.operand o) ∨
      Instr.sbi 0x01#8 = .sbi 0x01#8) ∧
    y.params.sbbCarryMode = .cleared ∧
    (u.params.sbbCarryMode = .computed ∧ (u.reg .a).toNat < (0x01#8 : Byte).toNat + u.flags.c.toNat) ∧
    (u.params.sbbCarryMode = .computed ∧ (u.reg .a).toNat = (0x00#8 : Byte).toNat + u.flags.c.toNat) ∧
    (x.params.sbbCarryMode = .computed ∧ (x.reg .a).toNat > (0x00#8 : Byte).toNat + x.flags.c.toNat) ∧
    (edge 0x1000#16 0#16).present (edge 0x1000#16 0#16).hl = false :=
  ⟨.inl ⟨.m, rfl, rfl, rfl⟩, .inr rfl, rfl, ⟨rfl, by decide⟩, ⟨rfl, rfl⟩, ⟨rfl, by decide⟩, rfl⟩

theorem witness_InrAndDcrLeaveCarry :
    let s := edge 0x0FFF#16 0#16
    (s.mem.wf = true ∧ s.operandPresent .m = true) ∧ (s.mem.wf = true ∧ s.operandPresent (.reg .a) = true) ∧
      (edge 0x1000#16 0#16).present (edge 0x1000#16 0#16).hl = false := by decide

/-- Both modes, and each correction that is made and not made. -/
theorem witness_DaaAdjustsUnderItsMode :
    let s := startAHL 0x9A#8 0x00#8 0x00#8
    let u := startAHL 0x99#8 0x00#8 0x00#8
    let y := { s with params := { s.params with daaMode := .stub } }
    y.params.daaMode = .stub ∧
    (s.params.daaMode = .standard ∧
      6 = (if 9 < (s.reg .a).toNat % 16 ∨ s.flags.ac = true then 6 else 0) ∧
      0x60 = (if 0x99 < (s.reg .a).toNat ∨ s.flags.c = true then 0x60 else 0)) ∧
    (u.params.daaMode = .standard ∧
      0 = (if 9 < (u.reg .a).toNat % 16 ∨ u.flags.ac = true then 6 else 0) ∧
      0 = (if 0x99 < (u.reg .a).toNat ∨ u.flags.c = true then 0x60 else 0)) := by decide

theorem witness_LogicalResultsAndFlags :
    let s := edge 0x0FFF#16 0#16
    let and' : Bool → Bool → Bool := fun x y => x && y
    let xor' : Bool → Bool → Bool := fun x y => x ^^ y
    let or' : Bool → Bool → Bool := fun x y => x || y
    (((∃ o, s.operandPresent o = true ∧ 0x00#8 = s.operand o ∧ Instr.anaM = .ana o) ∨ Instr.anaM = .ani 0x00#8) ∧
      and' = (fun x y => x && y) ∧ true = true) ∧
    (((∃ o, s.operandPresent o = true ∧ 0xFF#8 = s.operand o ∧ Instr.xri 0xFF#8 = .xra o) ∨ Instr.xri 0xFF#8 = .xri 0xFF#8) ∧
      xor' = (fun x y => x ^^ y) ∧ false = false) ∧
    (((∃ o, s.operandPresent o = true ∧ 0x0F#8 = s.operand o ∧ Instr.oraB = .ora o) ∨ Instr.oraB = .ori 0x0F#8) ∧
      or' = (fun x y => x || y) ∧ false = false) ∧
    (edge 0x1000#16 0#16).present (edge 0x1000#16 0#16).hl = false :=
  ⟨⟨.inl ⟨.m, rfl, rfl, rfl⟩, rfl, rfl⟩, ⟨.inr rfl, rfl, rfl⟩, ⟨.inl ⟨.reg .b, rfl, rfl, rfl⟩, rfl, rfl⟩, rfl⟩

theorem witness_CompareWritesFlagsOnly :
    let s := edge 0x0FFF#16 0#16
    let u := startAHL 0x01#8 0x00#8 0x00#8
    ((∃ o : Operand8, Instr.cmpM = .cmp o ∧ s.operandPresent o = true ∧ 0x00#8 = s.operand o) ∨ Instr.cmpM = .cpi 0x00#8) ∧
    (s.reg .a).toNat = (0x00#8 : Byte).toNat ∧
    ((∃ o : Operand8, Instr.cpi 0x01#8 = .cmp o ∧ s.operandPresent o = true ∧ 0x01#8 = s.operand o) ∨
      Instr.cpi 0x01#8 = .cpi 0x01#8) ∧
    (s.reg .a).toNat < (0x01#8 : Byte).toNat ∧ (u.reg .a).toNat > (0x00#8 : Byte).toNat ∧
    (edge 0x1000#16 0#16).present (edge 0x1000#16 0#16).hl = false :=
  ⟨.inl ⟨.m, rfl, rfl, rfl⟩, rfl, .inr rfl, by decide, by decide, rfl⟩

theorem witness_RotatesMoveEachBit :
    let s := startAHL 0x81#8 0x00#8 0x00#8
    (true = true ∧ true = (s.reg .a).getLsbD 7) ∧ (false = false ∧ true = (s.reg .a).getLsbD 0) ∧
      (true = true ∧ false = s.flags.c) ∧ (false = false ∧ false = s.flags.c) ∧ 6 < 7 ∧ 0 < 7 := by decide

/-- Both bytes present, the lower absent, only the upper absent. -/
theorem witness_PushStoresHighByteLower :
    let s := edge 0#16 0x1000#16
    let u := edge 0#16 0x1002#16
    let x := edge 0#16 0x1001#16
    (s.mem.wf = true ∧ s.present (s.sp - 2#16) = true ∧ s.present (s.sp - 1#16) = true) ∧
      u.present (u.sp - 2#16) = false ∧ (x.present (x.sp - 2#16) = true ∧ x.present (x.sp - 1#16) = false) := by decide

/-- The same, with the default layout and with another one that gives each flag its own bit. -/
theorem witness_PushPswPacksFlags :
    let s := edge 0#16 0x1000#16
    let u := edge 0#16 0x1002#16
    let x := edge 0#16 0x1001#16
    let y : PswLayout := { s := 0, z := 1, ac := 2, p := 3, c := 7, unused := 0xFF#8 }
    (s.mem.wf = true ∧ s.present (s.sp - 2#16) = true ∧ s.present (s.sp - 1#16) = true) ∧
      s.params.pswLayout = PswLayout.default ∧ s.params.pswLayout.wellFormed = true ∧ y.wellFormed = true ∧
      (∀ n ∈ [4, 5, 6], n ≠ y.s ∧ n ≠ y.z ∧ n ≠ y.ac ∧ n ≠ y.p ∧ n ≠ y.c) ∧
      u.present (u.sp - 2#16) = false ∧ (x.present (x.sp - 2#16) = true ∧ x.present (x.sp - 1#16) = false) := by decide

theorem witness_PopLoadsHighByteFromLower :
    let s := edge 0#16 0x0FFE#16
    let u := edge 0#16 0x1000#16
    let x := edge 0#16 0x0FFF#16
    (s.present s.sp = true ∧ s.present (s.sp + 1#16) = true) ∧ u.present u.sp = false ∧
      (x.present x.sp = true ∧ x.present (x.sp + 1#16) = false) := by decide

theorem witness_PopPswUnpacksFlags :
    let s := edge 0#16 0x0FFE#16
    let u := edge 0#16 0x1000#16
    let x := edge 0#16 0x0FFF#16
    (s.present s.sp = true ∧ s.present (s.sp + 1#16) = true ∧ s.params.pswLayout = PswLayout.default) ∧
      u.present u.sp = false ∧ (x.present x.sp = true ∧ x.present (x.sp + 1#16) = false) := by decide

theorem witness_PushThenPopRestores :
    let s := edge 0#16 0x1000#16
    s.mem.wf = true ∧ s.params.pswLayout.wellFormed = true ∧
      (∃ t, exec (.push .psw) s = .next t) ∧ ∃ t, exec (.push (.rp .h)) s = .next t :=
  ⟨rfl, rfl, ⟨_, rfl⟩, ⟨_, rfl⟩⟩

theorem witness_XthlExchangesTopOfStack :
    let s := edge 0#16 0x0FFE#16
    let u := edge 0#16 0x1000#16
    let x := edge 0#16 0x0FFF#16
    (s.mem.wf = true ∧ s.present s.sp = true ∧ s.present (s.sp + 1#16) = true) ∧ u.present u.sp = false ∧
      (x.present x.sp = true ∧ x.present (x.sp + 1#16) = false) := by decide

/-- Every condition, taken or not. -/
theorem witness_ConditionalJump :
    let f := start.flags
    (Cond.nz = .nz ∧ true = !f.z) ∧ (Cond.z = .z ∧ false = f.z) ∧ (Cond.nc = .nc ∧ true = !f.c) ∧
      (Cond.c = .c ∧ false = f.c) ∧ (Cond.po = .po ∧ true = !f.p) ∧ (Cond.pe = .pe ∧ false = f.p) ∧
      (Cond.p = .p ∧ true = !f.s) ∧ (Cond.m = .m ∧ false = f.s) := by decide

theorem witness_CallAndRestartPushReturnAddress :
    let s := edge 0#16 0x1000#16
    let u := edge 0#16 0x1002#16
    let x := edge 0#16 0x1001#16
    (Instr.call 0xFFFF#16 = .call 0xFFFF#16 ∨ ∃ n : Fin 8, Instr.call 0xFFFF#16 = .rst n ∧ (0xFFFF#16 : Word).toNat = 8 * n.val) ∧
    (Instr.rst7 = .call 0x0038#16 ∨ ∃ n : Fin 8, Instr.rst7 = .rst n ∧ (0x0038#16 : Word).toNat = 8 * n.val) ∧
    (s.mem.wf = true ∧ s.present (s.sp - 2#16) = true ∧ s.present (s.sp - 1#16) = true) ∧
      u.present (u.sp - 2#16) = false ∧ (x.present (x.sp - 2#16) = true ∧ x.present (x.sp - 1#16) = false) :=
  ⟨.inl rfl, .inr ⟨7, rfl, rfl⟩, by decide, by decide, by decide⟩

theorem witness_ConditionalCall :
    let s := edge 0#16 0x1000#16
    let u := edge 0#16 0x1002#16
    let x := edge 0#16 0x1001#16
    s.flags.holds .c = false ∧
    (s.flags.holds .nc = true ∧ s.mem.wf = true ∧ s.present (s.sp - 2#16) = true ∧ s.present (s.sp - 1#16) = true) ∧
      (u.flags.holds .nc = true ∧ u.present (u.sp - 2#16) = false) ∧
      (x.flags.holds .nc = true ∧ x.present (x.sp - 2#16) = true ∧ x.present (x.sp - 1#16) = false) := by decide

theorem witness_ReturnPopsProgramCounter :
    let s := edge 0#16 0x0FFE#16
    let u := edge 0#16 0x1000#16
    let x := edge 0#16 0x0FFF#16
    (s.present s.sp = true ∧ s.present (s.sp + 1#16) = true) ∧ u.present u.sp = false ∧
      (x.present x.sp = true ∧ x.present (x.sp + 1#16) = false) := by decide

theorem witness_ConditionalReturn :
    let s := edge 0#16 0x0FFE#16
    let u := edge 0#16 0x1000#16
    let x := edge 0#16 0x0FFF#16
    s.flags.holds .m = false ∧
    (s.flags.holds .p = true ∧ s.present s.sp = true ∧ s.present (s.sp + 1#16) = true) ∧
      (u.flags.holds .p = true ∧ u.present u.sp = false) ∧
      (x.flags.holds .p = true ∧ x.present x.sp = true ∧ x.present (x.sp + 1#16) = false) := by decide

theorem witness_NopOnlyAdvances :
    start.faulted = false ∧ start.present start.pc = true ∧ start.byteAt start.pc = 0x00#8 := by decide

/-- Both values of IM_MODEL, and SIM with and without bit 3. -/
theorem witness_InterruptMaskInstructions :
    let s := { start with im := 0xFF#8 }
    let u := { startAHL 0x07#8 0x00#8 0x00#8 with im := 0x0F#8, params := { start.params with imModel := .standard8085 } }
    let x := { startAHL 0x08#8 0x00#8 0x00#8 with im := 0x0F#8, params := { start.params with imModel := .standard8085 } }
    (s.im &&& ~~~(imImplemented s.params.imModel) = 0#8 ∧ s.params.imModel = .literal) ∧
    (u.im &&& ~~~(imImplemented u.params.imModel) = 0#8 ∧ u.params.imModel = .standard8085 ∧ (u.reg .a).getLsbD 3 = false) ∧
    (x.im &&& ~~~(imImplemented x.params.imModel) = 0#8 ∧ x.params.imModel = .standard8085 ∧ (x.reg .a).getLsbD 3 = true ∧
      2 < 3 ∧ 3 ≤ 3) := by decide

/-- A load that ends at MEM_SIZE, one that would pass it by a byte, and the addresses on each side of it. -/
theorem witness_SetMemoryLoadsBytes :
    let s := small 0x1000 start
    (s.mem.wf = true ∧ s.params.memSize ≤ 65536 ∧ (0x0FFE#16 : Word).toNat + [0x01#8, 0x02#8].length ≤ s.params.memSize ∧
      ((0x0FFD#16 : Word).toNat < (0x0FFE#16 : Word).toNat ∨ (0x0FFE#16 : Word).toNat + 2 ≤ (0x0FFD#16 : Word).toNat)) ∧
    ((0x1000#16 : Word).toNat < (0x0FFE#16 : Word).toNat ∨ (0x0FFE#16 : Word).toNat + 2 ≤ (0x1000#16 : Word).toNat) ∧
    s.params.memSize < (0x0FFF#16 : Word).toNat + [0x01#8, 0x02#8].length := by decide

/-- Past the end, at a HLT (Faulted and not), a step that completes and one that fails. -/
theorem witness_RunTestsBeforeEachStep :
    let s := small 0x1000 { start with pc := 0x1000#16 }
    let u := code [0x76#8] start
    let x := code [0x3C#8] start
    let y := code [0x08#8] start
    let z := { u with faulted := true }
    s.present s.pc = false ∧ (u.present u.pc = true ∧ u.byteAt u.pc = 0x76#8 ∧ u.faulted = false) ∧
    (z.present z.pc = true ∧ z.byteAt z.pc = 0x76#8 ∧ z.faulted = true) ∧
    (x.present x.pc = true ∧ x.byteAt x.pc ≠ 0x76#8 ∧ ∃ t, step x = .next t) ∧
    (y.present y.pc = true ∧ y.byteAt y.pc ≠ 0x76#8 ∧ ∃ f, step y = .fault f) :=
  ⟨rfl, ⟨rfl, rfl, rfl⟩, ⟨rfl, rfl, rfl⟩, ⟨rfl, by decide, _, rfl⟩, ⟨rfl, by decide, _, rfl⟩⟩

end Sys2Proof.Tests
end

section
/-!
Proofs of the statements on 16-bit arithmetic, INX, DCX and DAD (41_arithmetic.md R150 to R152). All three write one
pair (or SP) and at most F.C, so each proof is the state after, the frame of `setPair`, and one fact about words.
-/

namespace Sys2Proof.Machine

/-! ## Encodings -/

theorem encode_inx (p : PairSP) : encode (.inx p) = [BitVec.ofNat 8 (0x03 + 0x10 * p.code)] := by
  rcases p with (_ | _ | _) | _ <;> rfl

theorem encode_dcx (p : PairSP) : encode (.dcx p) = [BitVec.ofNat 8 (0x0B + 0x10 * p.code)] := by
  rcases p with (_ | _ | _) | _ <;> rfl

theorem encode_dad (p : PairSP) : encode (.dad p) = [BitVec.ofNat 8 (0x09 + 0x10 * p.code)] := by
  rcases p with (_ | _ | _) | _ <;> rfl

/-! ## Words that move by one -/

theorem toNat_word_add_one (w : Word) : (w + 1#16).toNat = (w.toNat + 1) % 65536 := BitVec.toNat_add w 1#16

theorem toNat_word_sub_one (w : Word) : (w - 1#16).toNat = (w.toNat + 65535) % 65536 :=
  (BitVec.toNat_sub w 1#16).trans (congrArg (· % 65536) (Nat.add_comm 65535 w.toNat))

/-! ## Frames -/

theorem get_withC_other (f : Flags) (x : Bool) {n : FlagName} (h : n ∉ [FlagName.c]) :
    (f.withC x).get n = f.get n := by
  cases n with
  | c => simp at h
  | _ => rfl

theorem keepsBut_setPair_flags (s : State) (p : Pair) (w : Word) {f : Flags} {fs : List FlagName}
    (hf : ∀ n, n ∉ fs → f.get n = s.flags.get n) :
    keepsBut (pairRegs p) fs [] s { s.setPair p w with flags := f } := by
  obtain ⟨hregs, -⟩ := keepsBut_setPair s p w
  exact keepsBut_regs_flags s hregs hf

/-! ## Statements -/

/-- Settles O37: the sum is formed in `Nat`, so H:L is its low 16 bits and F.C tells whether it passed them. -/
theorem dadAddsIntoHLAndSetsCarryOnly : Obligations.DadAddsIntoHLAndSetsCarryOnly := by
  intro p s
  have hsum (n : Nat) : ((s.setPair .h (BitVec.ofNat 16 n)).pair .h).toNat = n % 65536 := by
    rw [pair_setPair_same, BitVec.toNat_ofNat]
  exact ⟨encode_dad p, _, exec_dad s p, hsum _, rfl,
    keepsBut_setPair_flags s .h _ fun _ => get_withC_other s.flags _, rfl, rfl⟩

/-- Settles O36: both write `pairSP ± 1` to the operand they read, and `setPair` and a write of SP touch no flag. -/
theorem inxAndDcxMovePair : Obligations.InxAndDcxMovePair := by
  refine ⟨fun p => ⟨encode_inx p, encode_dcx p⟩, fun p s => ⟨?inxPair, ?dcxPair⟩, fun s => ⟨?inxSP, ?dcxSP⟩⟩
  case inxPair =>
    refine ⟨s.setPair p (s.pair p + 1#16), exec_inx s (.rp p), ?_, keepsBut_setPair s p _, rfl, rfl⟩
    rw [pair_setPair_same, toNat_word_add_one]
  case dcxPair =>
    refine ⟨s.setPair p (s.pair p - 1#16), exec_dcx s (.rp p), ?_, keepsBut_setPair s p _, rfl, rfl⟩
    rw [pair_setPair_same, toNat_word_sub_one]
  case inxSP => exact ⟨_, exec_inx s .sp, toNat_word_add_one s.sp, keepsBut_sp s _, rfl⟩
  case dcxSP => exact ⟨_, exec_dcx s .sp, toNat_word_sub_one s.sp, keepsBut_sp s _, rfl⟩

end Sys2Proof.Machine
end

section
/-!
Proofs of the statements on machine control and I/O (45_machine_control.md R260, R261). R260 rests on one lemma: every
instruction that is not machine control is a composition of byte accesses and updates, none of which looks at `im`,
draws or emits. The eight machine control instructions are then looked at one by one.
-/

namespace Sys2Proof.Machine

/-! ## The machine control instructions -/

/-- The instructions of 45_machine_control.md. -/
inductive MachineControl : Instr → Prop where
  | nop : MachineControl .nop
  | hlt : MachineControl .hlt
  | ei : MachineControl .ei
  | di : MachineControl .di
  | sim : MachineControl .sim
  | rim : MachineControl .rim
  | inPort (d8 : Byte) : MachineControl (.inPort d8)
  | outPort (d8 : Byte) : MachineControl (.outPort d8)

/-- Their opcode bytes are theirs alone. -/
theorem machineControl_of_opcodeOf {i : Instr}
    (h : opcodeOf i ∈ [0x00#8, 0x76#8, 0xFB#8, 0xF3#8, 0x30#8, 0x20#8, 0xDB#8, 0xD3#8]) : MachineControl i := by
  cases i with
  | nop => exact .nop
  | hlt => exact .hlt
  | ei => exact .ei
  | di => exact .di
  | sim => exact .sim
  | rim => exact .rim
  | inPort d8 => exact .inPort d8
  | outPort d8 => exact .outPort d8
  | _ => exact absurd h (of_decide_eq_false rfl)

/-- The mask SIM leaves, from IM_MODEL, the old mask and A (R265). -/
def simMask (mode : ImModel) (im a : Byte) : Byte :=
  match mode with
  | .literal => a &&& imImplemented .literal
  | .standard8085 =>
    if a.getLsbD 3 then ((im &&& imImplemented .standard8085 &&& 0xF8#8) ||| (a &&& 0x07#8)) &&& imImplemented .standard8085
    else im

theorem setInterruptMask_eq (s : State) :
    setInterruptMask s = .next { s with im := simMask s.params.imModel s.im (s.reg .a) } := by
  cases hm : s.params.imModel with
  | literal => simp only [setInterruptMask, hm, State.writeIm, simMask]
  | standard8085 =>
    simp only [setInterruptMask, setMaskStandard, State.writeIm, State.readIm, simMask, hm]
    split <;> rfl

/-! ## Meanings that do not look at the mask, draw or emit -/

/-- `r'` is `r` with the mask `v` in every state; and if `r` completes, nothing was drawn and nothing emitted since `s`. -/
structure Quiet (v : Byte) (s : State) (r' r : Result) : Prop where
  mask : r' = onStates (fun t => { t with im := v }) r
  io : ∀ t, r = .next t → t.draws = s.draws ∧ t.events = s.events

section
variable {v : Byte} {s : State}

theorem quiet_next {t' t : State} (ht : t' = { t with im := v }) (hd : t.draws = s.draws)
    (he : t.events = s.events) : Quiet v s (.next t') (.next t) :=
  ⟨ht ▸ rfl, fun _ h => Host.Outcome.next.inj h ▸ ⟨hd, he⟩⟩

theorem quiet_raise (a : Word) (u : State) :
    Quiet v s (raiseMemoryOutOfRange a { u with im := v }) (raiseMemoryOutOfRange a u) := ⟨rfl, nofun⟩

theorem quiet_ite {c : Prop} [Decidable c] {q' q r' r : Result} (hq : Quiet v s q' q) (hr : Quiet v s r' r) :
    Quiet v s (if c then q' else r') (if c then q else r) := by
  split
  · exact hq
  · exact hr

theorem quiet_memRead {u' u : State} {a : Word} {k' k : Byte → Result} (hu : u' = { u with im := v })
    (h : ∀ x, Quiet v s (k' x) (k x)) : Quiet v s (memRead u' a k') (memRead u a k) := by
  subst hu
  exact quiet_ite (h _) (quiet_raise a u)

theorem quiet_memWrite {u' u : State} {a : Word} {x : Byte} {k' k : State → Result} (hu : u' = { u with im := v })
    (h : Quiet v s (k' { u.setByte a x with im := v }) (k (u.setByte a x))) :
    Quiet v s (memWrite u' a x k') (memWrite u a x k) := by
  subst hu
  exact quiet_ite h (quiet_raise a u)

/-- The writes that a failure leaves open are not of `im`. -/
theorem quiet_settlePartial {b : State} {r' r : Result} (h : Quiet v s r' r) :
    Quiet v s (settlePartial { b with im := v } r') (settlePartial b r) := by
  obtain ⟨rfl, hio⟩ := h
  refine ⟨?_, fun t ht => hio t (settlePartial_eq_next.mp ht)⟩
  rcases r with t | (_ | _ | _) | _ <;> rfl

theorem quiet_andThen {r' r : Result} {k : State → Result} (h : Quiet v s r' r)
    (hk : ∀ t, t.draws = s.draws → t.events = s.events → Quiet v s (k { t with im := v }) (k t)) :
    Quiet v s (andThen r' k) (andThen r k) := by
  obtain ⟨rfl, hio⟩ := h
  constructor
  case io =>
    intro t ht
    obtain ⟨u, rfl, hu⟩ := andThen_eq_next.mp ht
    obtain ⟨hd, he⟩ := hio u rfl
    exact (hk u hd he).io t hu
  case mask =>
    rcases r with u | (_ | _ | _) | _
    · obtain ⟨hd, he⟩ := hio u rfl
      exact (hk u hd he).mask
    all_goals rfl

end

/-! ## The shared operations -/

section
variable (v : Byte) (s : State)

theorem quiet_refl : Quiet v s (.next { s with im := v }) (.next s) := quiet_next rfl rfl rfl

theorem quiet_src8 (o : Operand8) {k' k : Byte → Result} (h : ∀ x, Quiet v s (k' x) (k x)) :
    Quiet v s (src8 o { s with im := v } k') (src8 o s k) := by
  cases o with
  | reg r => exact h _
  | m => exact quiet_memRead rfl h

theorem quiet_dst8 (o : Operand8) {u' u : State} (x : Byte) (hu : u' = { u with im := v })
    (hd : u.draws = s.draws) (he : u.events = s.events) :
    Quiet v s (dst8 o u' x) (dst8 o u x) := by
  subst hu
  cases o with
  | reg r => exact quiet_next rfl hd he
  | m => exact quiet_memWrite rfl (quiet_next rfl hd he)

theorem quiet_withOperand (o : Operand8) {f : Byte → State → State}
    (hf : ∀ x, f x { s with im := v } = { f x s with im := v })
    (hd : ∀ x, (f x s).draws = s.draws) (he : ∀ x, (f x s).events = s.events) :
    Quiet v s (withOperand o { s with im := v } f) (withOperand o s f) :=
  quiet_src8 v s o fun x => quiet_next (hf x) (hd x) (he x)

theorem quiet_push (w : Word) : Quiet v s (push w { s with im := v }) (push w s) :=
  quiet_settlePartial (quiet_memWrite rfl (quiet_memWrite rfl (quiet_next rfl rfl rfl)))

theorem quiet_stackRead {k' k : Word → Result} (h : ∀ w, Quiet v s (k' w) (k w)) :
    Quiet v s (stackRead { s with im := v } k') (stackRead s k) :=
  quiet_memRead rfl fun _ => quiet_memRead rfl fun _ => h _

theorem quiet_pop {k' k : Word → State → Result}
    (h : ∀ w, Quiet v s (k' w { s with sp := s.sp + 2#16, im := v }) (k w { s with sp := s.sp + 2#16 })) :
    Quiet v s (pop { s with im := v } k') (pop s k) :=
  quiet_stackRead v s h

theorem quiet_setPairSP (p : PairSP) (w : Word) :
    Quiet v s (.next (({ s with im := v } : State).setPairSP p w)) (.next (s.setPairSP p w)) := by
  cases p <;> exact quiet_next rfl rfl rfl

theorem quiet_popInto (p : PairPSW) : Quiet v s (popInto p { s with im := v }) (popInto p s) :=
  quiet_pop v s fun _ => by cases p <;> exact quiet_next rfl rfl rfl

theorem quiet_exchangeTopHL : Quiet v s (exchangeTopHL { s with im := v }) (exchangeTopHL s) :=
  quiet_stackRead v s fun _ => quiet_memWrite rfl (quiet_memWrite rfl (quiet_next rfl rfl rfl))

theorem quiet_loadAccumulator (a : Word) :
    Quiet v s (loadAccumulator a { s with im := v }) (loadAccumulator a s) :=
  quiet_memRead rfl fun _ => quiet_next rfl rfl rfl

theorem quiet_storeAccumulator (a : Word) :
    Quiet v s (storeAccumulator a { s with im := v }) (storeAccumulator a s) :=
  quiet_memWrite rfl (quiet_next rfl rfl rfl)

theorem quiet_loadHLDirect (a : Word) : Quiet v s (loadHLDirect a { s with im := v }) (loadHLDirect a s) :=
  quiet_settlePartial (quiet_memRead rfl fun _ => quiet_memRead rfl fun _ => quiet_next rfl rfl rfl)

theorem quiet_storeHLDirect (a : Word) : Quiet v s (storeHLDirect a { s with im := v }) (storeHLDirect a s) :=
  quiet_settlePartial (quiet_memWrite rfl (quiet_memWrite rfl (quiet_next rfl rfl rfl)))

theorem quiet_increment (o : Operand8) : Quiet v s (increment o { s with im := v }) (increment o s) :=
  quiet_src8 v s o fun _ => quiet_dst8 v s o _ rfl rfl rfl

theorem quiet_decrement (o : Operand8) : Quiet v s (decrement o { s with im := v }) (decrement o s) :=
  quiet_src8 v s o fun _ => quiet_dst8 v s o _ rfl rfl rfl

theorem quiet_decimalAdjust : Quiet v s (decimalAdjust { s with im := v }) (decimalAdjust s) := by
  cases hm : s.params.daaMode <;> simp only [decimalAdjust, hm] <;> exact quiet_next rfl rfl rfl

theorem quiet_callTo (a : Word) : Quiet v s (callTo a { s with im := v }) (callTo a s) :=
  quiet_andThen (quiet_push v s s.pc) fun _ hd he => quiet_next rfl hd he

theorem quiet_returnFrom : Quiet v s (returnFrom { s with im := v }) (returnFrom s) :=
  quiet_pop v s fun _ => quiet_next rfl rfl rfl

/-- No instruction outside 45_machine_control.md reads or writes `im`, draws or emits (R260). -/
theorem exec_quiet {i : Instr} (h : ¬ MachineControl i) : Quiet v s (exec i { s with im := v }) (exec i s) := by
  cases instr_form i with
  | nop => exact (h .nop).elim
  | hlt => exact (h .hlt).elim
  | ei => exact (h .ei).elim
  | di => exact (h .di).elim
  | sim => exact (h .sim).elim
  | rim => exact (h .rim).elim
  | inPort d8 => exact (h (.inPort d8)).elim
  | outPort d8 => exact (h (.outPort d8)).elim
  | movRegReg dst src => simp only [exec_movRegReg]; exact quiet_next rfl rfl rfl
  | movRegMem r => simp only [exec_movRegMem]; exact quiet_src8 v s .m fun _ => quiet_next rfl rfl rfl
  | movMemReg r => simp only [exec_movMemReg]; exact quiet_dst8 v s .m _ rfl rfl rfl
  | mvi o d8 =>
    cases o with
    | reg r => simp only [exec_mvi_reg]; exact quiet_next rfl rfl rfl
    | m => exact quiet_dst8 v s .m d8 rfl rfl rfl
  | lxi p d16 => simp only [exec_lxi]; exact quiet_setPairSP v s p d16
  | inx p => simp only [exec_inx]; exact quiet_setPairSP v s p _
  | dcx p => simp only [exec_dcx]; exact quiet_setPairSP v s p _
  | dad p => simp only [exec_dad]; exact quiet_next rfl rfl rfl
  | ldax p => simp only [exec_ldax]; exact quiet_loadAccumulator v s _
  | stax p => simp only [exec_stax]; exact quiet_storeAccumulator v s _
  | lda a16 => exact quiet_loadAccumulator v s a16
  | sta a16 => exact quiet_storeAccumulator v s a16
  | lhld a16 => exact quiet_loadHLDirect v s a16
  | shld a16 => exact quiet_storeHLDirect v s a16
  | push p => simp only [exec_push]; exact quiet_push v s _
  | pop p => simp only [exec_pop]; exact quiet_popInto v s p
  | xthl => exact quiet_exchangeTopHL v s
  | add o | adc o | sub o | sbb o | ana o | xra o | ora o | cmp o =>
    simp only [exec_add, exec_adc, exec_sub, exec_sbb, exec_ana, exec_xra, exec_ora, exec_cmp]
    exact quiet_withOperand v s o (fun _ => rfl) (fun _ => rfl) (fun _ => rfl)
  | inr o => simp only [exec_inr]; exact quiet_increment v s o
  | dcr o => simp only [exec_dcr]; exact quiet_decrement v s o
  | daa => exact quiet_decimalAdjust v s
  | jcc cc a16 => simp only [exec_jcc]; exact quiet_ite (quiet_next rfl rfl rfl) (quiet_refl v s)
  | ccc cc a16 => simp only [exec_ccc]; exact quiet_ite (quiet_callTo v s a16) (quiet_refl v s)
  | rcc cc => simp only [exec_rcc]; exact quiet_ite (quiet_returnFrom v s) (quiet_refl v s)
  | rst n => simp only [exec_rst]; exact quiet_callTo v s _
  | call a16 => exact quiet_callTo v s a16
  | ret => exact quiet_returnFrom v s
  | rlc | rrc | ral | rar | cma | stc | cmc | jmp | pchl | xchg | sphl | adi | aci | sui | sbi | ani | xri | ori | cpi =>
    exact quiet_next rfl rfl rfl

end

/-! ## The three parts of R260 -/

/-- Machine control leaves memory and the flags, and does the same whatever memory holds. -/
theorem machineControl_exec_mem {i : Instr} (h : MachineControl i) (s : State) (m : Memory) :
    exec i { s with mem := m } = onStates (fun t => { t with mem := m }) (exec i s) ∧
      ∃ t, exec i s = .next t ∧ t.mem = s.mem ∧ t.flags = s.flags := by
  cases h with
  | sim =>
    simp only [exec_sim, setInterruptMask_eq]
    exact ⟨rfl, _, rfl, rfl, rfl⟩
  | nop | hlt | ei | di | rim | inPort | outPort => exact ⟨rfl, _, rfl, rfl, rfl⟩

/-- EI, DI, SIM and RIM apart, an instruction leaves `im` and does the same whatever it holds. -/
theorem exec_withIm {i : Instr} (h : opcodeOf i ∉ [0xFB#8, 0xF3#8, 0x30#8, 0x20#8]) (s : State) (v : Byte) :
    exec i { s with im := v } = onStates (fun t => { t with im := v }) (exec i s) := by
  by_cases hm : MachineControl i
  case neg => exact (exec_quiet v s hm).mask
  case pos =>
    cases hm with
    | nop | hlt | inPort | outPort => rfl
    | ei | di | sim | rim => exact absurd (by decide) h

/-- IN and OUT apart, an instruction that completes made no draw and emitted no IoOut. -/
theorem exec_io {i : Instr} {s t : State} (h : opcodeOf i ∉ [0xDB#8, 0xD3#8]) (ht : exec i s = .next t) :
    t.draws = s.draws ∧ ∀ p v, Event.ioOut p v ∈ t.events → Event.ioOut p v ∈ s.events := by
  by_cases hm : MachineControl i
  case neg =>
    obtain ⟨hd, he⟩ := (exec_quiet s.im s hm).io t ht
    exact ⟨hd, fun _ _ hp => he ▸ hp⟩
  case pos =>
    cases hm with
    | inPort d8 => exact absurd (by simp [opcodeOf_inPort]) h
    | outPort d8 => exact absurd (by simp [opcodeOf_outPort]) h
    | hlt => cases ht; exact ⟨rfl, fun p v hp => by simpa using hp⟩
    | sim =>
      rw [exec_sim, setInterruptMask_eq] at ht
      cases ht
      exact ⟨rfl, fun _ _ hp => hp⟩
    | nop | ei | di | rim => cases ht; exact ⟨rfl, fun _ _ hp => hp⟩

/-- Byte 00 is NOP under both catalogs. -/
theorem catalogByByte_nop (ext : CatalogExtent) : catalogByByte ext 0x00#8 = some (.plain .nop) := by
  cases ext <;> rfl

/-! ## Statements -/

/-- Settles O16: its three parts are about the eight machine control instructions, about all but EI, DI, SIM and RIM,
and about all but IN and OUT. -/
theorem machineControlTouchesOnlyItsState : Obligations.MachineControlTouchesOnlyItsState :=
  ⟨fun _ s m h => machineControl_exec_mem (machineControl_of_opcodeOf h) s m, fun _ s v h => exec_withIm h s v,
    fun _ _ _ h ht => exec_io h ht⟩

/-- Settles O55: the fetch of byte 00 moves pc by one, and `noOperation` answers the state it is given. -/
theorem nopOnlyAdvances : Obligations.NopOnlyAdvances := by
  refine ⟨rfl, exec_nop, fun s hf hp hb => ?_⟩
  have hstep : step s = fetchInstr s.beginStep exec := if_neg (by simp [hf])
  rw [hstep, fetchInstr, fetch8_present (s := s.beginStep) _ hp]
  simp only [byteAt_beginStep, beginStep_pc, hb, catalogByByte_nop, exec_nop, noOperation]
  rfl

end Sys2Proof.Machine
end

section
/-!
Proofs of the statements on ADD and ADI (41_arithmetic.md R140, R141) and on the logical instructions
(42_logical_rotate.md R180 to R185). A register-or-memory form and its immediate form apply one state change to the
operand's byte, so each statement is: what that change answers, for any byte, and that both forms reach it.
-/

namespace Sys2Proof.Machine

/-! ## Encodings -/

theorem encode_add (o : Operand8) : encode (.add o) = [BitVec.ofNat 8 (0x80 + o.offset)] := by
  cases o with
  | reg r => cases r <;> rfl
  | m => rfl

theorem encode_ana (o : Operand8) : encode (.ana o) = [BitVec.ofNat 8 (0xA0 + o.offset)] := by
  cases o with
  | reg r => cases r <;> rfl
  | m => rfl

theorem encode_xra (o : Operand8) : encode (.xra o) = [BitVec.ofNat 8 (0xA8 + o.offset)] := by
  cases o with
  | reg r => cases r <;> rfl
  | m => rfl

theorem encode_ora (o : Operand8) : encode (.ora o) = [BitVec.ofNat 8 (0xB0 + o.offset)] := by
  cases o with
  | reg r => cases r <;> rfl
  | m => rfl

/-! ## An operand form and its immediate form -/

section

variable {form : Operand8 → Instr} {f : Byte → State → State}
  (hform : ∀ s o, exec (form o) s = withOperand o s f)

include hform

/-- Whichever form gives the byte `v`, the instruction completes with the one change `f v`. -/
theorem exec_operand_or_immediate {imm : Byte → Instr} (himm : ∀ s d8, exec (imm d8) s = .next (f d8 s))
    {i : Instr} {v : Byte} {s : State}
    (hi : (∃ o, i = form o ∧ s.operandPresent o = true ∧ v = s.operand o) ∨ i = imm v) :
    exec i s = .next (f v s) := by
  rcases hi with ⟨o, rfl, hp, rfl⟩ | rfl
  · rw [hform, withOperand_present s hp]
  · exact himm s v

/-- The form that names M fails at H:L when that address is absent (R302). -/
theorem exec_m_failsAt {s : State} (h : s.present s.hl = false) : failsAt (exec (form .m) s) s.hl := by
  rw [hform]
  exact withOperand_absent s h

end

/-! ## What the changes write -/

/-- The frame of every change that writes A and the five flags. -/
theorem keepsBut_setA_flags (s : State) (v : Byte) (f : Flags) :
    keepsBut [.a] [.s, .z, .ac, .p, .c] [] s { s.setReg .a v with flags := f } :=
  keepsBut_setReg_flags s fun _ => flag_is_named

theorem reg_a_addTo (v : Byte) (s : State) : (addTo v s).reg .a = sum8 (s.reg .a) v 0 := reg_setReg_same s .a _

theorem reg_a_logicalResult (r : Byte) (ac : Bool) (s : State) : (logicalResult r ac s).reg .a = r :=
  reg_setReg_same s .a r

/-- The common part of R180 to R185: a pair of forms whose change stores `op` of A and the operand, where `op`
is `bit` on each bit. -/
theorem exec_logical_spec {form : Operand8 → Instr} {imm : Byte → Instr} (op : Byte → Byte → Byte)
    {bit : Bool → Bool → Bool} {ac : Bool}
    (hform : ∀ s o, exec (form o) s = withOperand o s fun v s => logicalResult (op (s.reg .a) v) ac s)
    (himm : ∀ s v, exec (imm v) s = .next (logicalResult (op (s.reg .a) v) ac s))
    (hop : ∀ x v n, (op x v).getLsbD n = bit (x.getLsbD n) (v.getLsbD n)) {i : Instr} {v : Byte} {s : State}
    (hi : (∃ o, s.operandPresent o = true ∧ v = s.operand o ∧ i = form o) ∨ i = imm v) :
    ∃ t, exec i s = .next t ∧
      (∀ n, n < 8 → (t.reg .a).getLsbD n = bit ((s.reg .a).getLsbD n) (v.getLsbD n)) ∧
      szpOf (t.reg .a) t.flags ∧ t.flags.ac = ac ∧ t.flags.c = false ∧
      keepsBut [.a] [.s, .z, .ac, .p, .c] [] s t ∧ t.sp = s.sp ∧ t.pc = s.pc := by
  have hexec := exec_operand_or_immediate hform himm (hi.imp_left fun ⟨o, hp, hv, ho⟩ => ⟨o, ho, hp, hv⟩)
  refine ⟨_, hexec, ?bits, ?szp, rfl, rfl, keepsBut_setA_flags s _ _, rfl, rfl⟩
  case bits =>
    rw [reg_a_logicalResult]
    exact fun n _ => hop _ _ n
  case szp =>
    rw [reg_a_logicalResult]
    exact szpOf_szp s.flags _ ac false

/-! ## Statements -/

/-- Settles O31: `addTo` forms the sum and both carries in `Nat`, with no carry in. -/
theorem addWritesSumAndAllFlags : Obligations.AddWritesSumAndAllFlags := by
  refine ⟨encode_add, fun _ => rfl, fun _ => exec_m_failsAt exec_add, fun i v s hi => ?_⟩
  refine ⟨addTo v s, exec_operand_or_immediate exec_add exec_adi hi, ?sum, ?szp, rfl, rfl,
    keepsBut_setA_flags s _ _, rfl, rfl⟩
  case sum => rw [reg_a_addTo, toNat_sum8, Nat.add_zero]
  case szp =>
    rw [reg_a_addTo]
    exact szpOf_szp s.flags _ _ _

/-- Settles O39: the three operations differ in the bitwise function and in AC, and share `logicalResult`. -/
theorem logicalResultsAndFlags : Obligations.LogicalResultsAndFlags := by
  refine ⟨fun o => ⟨encode_ana o, encode_xra o, encode_ora o⟩, fun _ => ⟨rfl, rfl, rfl⟩,
    fun _ h => ⟨exec_m_failsAt exec_ana h, exec_m_failsAt exec_xra h, exec_m_failsAt exec_ora h⟩, ?_⟩
  rintro i v bit ac s (⟨hi, rfl, rfl⟩ | ⟨hi, rfl, rfl⟩ | ⟨hi, rfl, rfl⟩)
  · exact exec_logical_spec (· &&& ·) exec_ana exec_ani (fun _ _ _ => BitVec.getLsbD_and) hi
  · exact exec_logical_spec (· ^^^ ·) exec_xra exec_xri (fun _ _ _ => BitVec.getLsbD_xor) hi
  · exact exec_logical_spec (· ||| ·) exec_ora exec_ori (fun _ _ _ => BitVec.getLsbD_or) hi

end Sys2Proof.Machine
end

section
/-!
Proofs of the statements on encoding (30_encoding.md R70 to R91). The descriptor expansion is the one list of entries that
proofs go through: each of its entries is the cell of the opcode map at its byte, the bytes are distinct and leave no
populated cell out, and each entry's instructions are encoded with its byte first.
-/

namespace Sys2Proof

/-! ## Distinct numbers, checked in one pass -/

/-- One pass over `ks` that marks bit `k` of a mask for each, and stops at one that is marked already. -/
def markAll : List Nat → Nat → Option Nat
  | [], m => some m
  | k :: ks, m => if m.testBit k then none else markAll ks (m ||| 2 ^ k)

/-- A pass that never stops has seen distinct numbers, and has marked no others. -/
theorem nodup_of_markAll {ks : List Nat} {m m' : Nat} (h : markAll ks m = some m') :
    ks.Nodup ∧ (∀ k ∈ ks, m.testBit k = false) ∧ ∀ k, m'.testBit k = true → m.testBit k = true ∨ k ∈ ks := by
  induction ks generalizing m with
  | nil => cases h; simp
  | cons k ks ih =>
    rw [markAll] at h
    split at h
    · cases h
    · next hk =>
      obtain ⟨hnodup, hclear, hset⟩ := ih h
      have hbit (j : Nat) : (m ||| 2 ^ k).testBit j = (m.testBit j || decide (k = j)) := by
        rw [Nat.testBit_or, Nat.testBit_two_pow]
      simp only [hbit, Bool.or_eq_false_iff, Bool.or_eq_true, decide_eq_true_eq, decide_eq_false_iff_not] at hclear hset
      refine ⟨List.nodup_cons.mpr ⟨fun hmem => (hclear k hmem).2 rfl, hnodup⟩, ?_, fun j hj => ?_⟩
      · simp only [List.mem_cons, forall_eq_or_imp]
        exact ⟨by simpa using hk, fun j hj => (hclear j hj).1⟩
      · rcases hset j hj with (h | rfl) | h
        · exact .inl h
        · simp
        · simp [h]

/-! ## The descriptor expansion (R72, R81) -/

/-- The 246 populated bytes: all but the ten of R86. -/
def populatedBytes : Nat :=
  2 ^ 256 - 1 - (2 ^ 0x08 + 2 ^ 0x10 + 2 ^ 0x18 + 2 ^ 0x28 + 2 ^ 0x38 + 2 ^ 0xCB + 2 ^ 0xD9 + 2 ^ 0xDD + 2 ^ 0xED +
    2 ^ 0xFD)

theorem markAll_catalogEntries :
    markAll (catalogEntries.map fun e => e.1.toNat) 0 = some populatedBytes := by decide +kernel

theorem opcodeCell_isSome : ∀ op : Byte, (opcodeCell op).isSome = populatedBytes.testBit op.toNat := by
  decide +kernel

theorem catalogEntries_bytes_nodup : (catalogEntries.map Prod.fst).Nodup := by
  have h := (nodup_of_markAll markAll_catalogEntries).1
  rw [← Function.comp_def, ← List.map_map] at h
  exact h.of_map _

/-- To compare two functions on the entries, compare them descriptor by descriptor. -/
theorem eq_on_catalogEntries {α : Type} {f g : Byte × Entry → α}
    (h : (descriptorsLow ++ descriptorsMid ++ descriptorsHigh).map (fun d => d.expand.map f) =
      (descriptorsLow ++ descriptorsMid ++ descriptorsHigh).map fun d => d.expand.map g) :
    ∀ e ∈ catalogEntries, f e = g e := by
  intro e he
  obtain ⟨d, hd, he⟩ := List.mem_flatMap.mp he
  exact List.map_inj_left.mp (List.map_inj_left.mp h d hd) e he

/-- Each entry is the cell of the opcode map at its byte. -/
theorem opcodeCell_of_mem : ∀ e ∈ catalogEntries, opcodeCell e.1 = some e.2 := eq_on_catalogEntries rfl

/-- The opcode map has no other cell. -/
theorem mem_catalogEntries {op : Byte} {e : Entry} (h : opcodeCell op = some e) : (op, e) ∈ catalogEntries := by
  have hbit : populatedBytes.testBit op.toNat = true := by rw [← opcodeCell_isSome, h]; rfl
  rcases (nodup_of_markAll markAll_catalogEntries).2.2 _ hbit with h0 | hmem
  · simp at h0
  · obtain ⟨p, hp, heq⟩ := List.mem_map.mp hmem
    obtain rfl : p.1 = op := BitVec.eq_of_toNat_eq heq
    rw [opcodeCell_of_mem p hp] at h
    rwa [← Option.some.inj h]

/-- The instruction of an entry, with operand `d8` or `d16` where it takes one. -/
def Entry.instr (d8 : Byte) (d16 : Word) : Entry → Instr
  | .plain i => i
  | .data8 f => f d8
  | .data16 f => f d16

/-- The bytes of R70's formats F1, F2 and F3, by the shape of the entry. -/
def Entry.format (op d8 : Byte) (d16 : Word) : Entry → List Byte
  | .plain _ => [op]
  | .data8 _ => encodeData8 op d8
  | .data16 _ => encodeData16 op d16

/-- Each entry's instructions are encoded with its byte first, in the format of its shape. -/
theorem encode_instr_of_mem (d8 : Byte) (d16 : Word) :
    ∀ e ∈ catalogEntries, encode (e.2.instr d8 d16) = e.2.format e.1 d8 d16 := eq_on_catalogEntries rfl

theorem encode_instr {op : Byte} {e : Entry} (h : catalogByByte .full op = some e) (d8 : Byte) (d16 : Word) :
    encode (e.instr d8 d16) = e.format op d8 d16 := encode_instr_of_mem d8 d16 _ (mem_catalogEntries h)

/-! ## Encoding, then decoding -/

open Laws.OpcodeEntry in
/-- The rows of Laws/PerInstr put together. -/
theorem encodingMatchesCatalog : ∀ i : Instr, EncodingMatchesCatalog i
  | .nop => nop | .lxiB d16 => lxiB d16 | .staxB => staxB | .inxB => inxB | .inrB => inrB | .dcrB => dcrB
  | .mviB d8 => mviB d8 | .rlc => rlc | .dadB => dadB | .ldaxB => ldaxB | .dcxB => dcxB | .inrC => inrC
  | .dcrC => dcrC | .mviC d8 => mviC d8 | .rrc => rrc | .lxiD d16 => lxiD d16 | .staxD => staxD | .inxD => inxD
  | .inrD => inrD | .dcrD => dcrD | .mviD d8 => mviD d8 | .ral => ral | .dadD => dadD | .ldaxD => ldaxD
  | .dcxD => dcxD | .inrE => inrE | .dcrE => dcrE | .mviE d8 => mviE d8 | .rar => rar | .rim => rim
  | .lxiH d16 => lxiH d16 | .shld a16 => shld a16 | .inxH => inxH | .inrH => inrH | .dcrH => dcrH
  | .mviH d8 => mviH d8 | .daa => daa | .dadH => dadH | .lhld a16 => lhld a16 | .dcxH => dcxH | .inrL => inrL
  | .dcrL => dcrL | .mviL d8 => mviL d8 | .cma => cma | .sim => sim | .lxiSP d16 => lxiSP d16 | .sta a16 => sta a16
  | .inxSP => inxSP | .inrM => inrM | .dcrM => dcrM | .mviM d8 => mviM d8 | .stc => stc | .dadSP => dadSP
  | .lda a16 => lda a16 | .dcxSP => dcxSP | .inrA => inrA | .dcrA => dcrA | .mviA d8 => mviA d8 | .cmc => cmc
  | .movBB => movBB | .movBC => movBC | .movBD => movBD | .movBE => movBE | .movBH => movBH | .movBL => movBL
  | .movBM => movBM | .movBA => movBA | .movCB => movCB | .movCC => movCC | .movCD => movCD | .movCE => movCE
  | .movCH => movCH | .movCL => movCL | .movCM => movCM | .movCA => movCA | .movDB => movDB | .movDC => movDC
  | .movDD => movDD | .movDE => movDE | .movDH => movDH | .movDL => movDL | .movDM => movDM | .movDA => movDA
  | .movEB => movEB | .movEC => movEC | .movED => movED | .movEE => movEE | .movEH => movEH | .movEL => movEL
  | .movEM => movEM | .movEA => movEA | .movHB => movHB | .movHC => movHC | .movHD => movHD | .movHE => movHE
  | .movHH => movHH | .movHL => movHL | .movHM => movHM | .movHA => movHA | .movLB => movLB | .movLC => movLC
  | .movLD => movLD | .movLE => movLE | .movLH => movLH | .movLL => movLL | .movLM => movLM | .movLA => movLA
  | .movMB => movMB | .movMC => movMC | .movMD => movMD | .movME => movME | .movMH => movMH | .movML => movML
  | .hlt => hlt | .movMA => movMA | .movAB => movAB | .movAC => movAC | .movAD => movAD | .movAE => movAE
  | .movAH => movAH | .movAL => movAL | .movAM => movAM | .movAA => movAA | .addB => addB | .addC => addC
  | .addD => addD | .addE => addE | .addH => addH | .addL => addL | .addM => addM | .addA => addA | .adcB => adcB
  | .adcC => adcC | .adcD => adcD | .adcE => adcE | .adcH => adcH | .adcL => adcL | .adcM => adcM | .adcA => adcA
  | .subB => subB | .subC => subC | .subD => subD | .subE => subE | .subH => subH | .subL => subL | .subM => subM
  | .subA => subA | .sbbB => sbbB | .sbbC => sbbC | .sbbD => sbbD | .sbbE => sbbE | .sbbH => sbbH | .sbbL => sbbL
  | .sbbM => sbbM | .sbbA => sbbA | .anaB => anaB | .anaC => anaC | .anaD => anaD | .anaE => anaE | .anaH => anaH
  | .anaL => anaL | .anaM => anaM | .anaA => anaA | .xraB => xraB | .xraC => xraC | .xraD => xraD | .xraE => xraE
  | .xraH => xraH | .xraL => xraL | .xraM => xraM | .xraA => xraA | .oraB => oraB | .oraC => oraC | .oraD => oraD
  | .oraE => oraE | .oraH => oraH | .oraL => oraL | .oraM => oraM | .oraA => oraA | .cmpB => cmpB | .cmpC => cmpC
  | .cmpD => cmpD | .cmpE => cmpE | .cmpH => cmpH | .cmpL => cmpL | .cmpM => cmpM | .cmpA => cmpA | .rnz => rnz
  | .popB => popB | .jnz a16 => jnz a16 | .jmp a16 => jmp a16 | .cnz a16 => cnz a16 | .pushB => pushB
  | .adi d8 => adi d8 | .rst0 => rst0 | .rz => rz | .ret => ret | .jz a16 => jz a16 | .cz a16 => cz a16
  | .call a16 => call a16 | .aci d8 => aci d8 | .rst1 => rst1 | .rnc => rnc | .popD => popD | .jnc a16 => jnc a16
  | .outPort d8 => outPort d8 | .cnc a16 => cnc a16 | .pushD => pushD | .sui d8 => sui d8 | .rst2 => rst2 | .rc => rc
  | .jc a16 => jc a16 | .inPort d8 => inPort d8 | .cc a16 => cc a16 | .sbi d8 => sbi d8 | .rst3 => rst3 | .rpo => rpo
  | .popH => popH | .jpo a16 => jpo a16 | .xthl => xthl | .cpo a16 => cpo a16 | .pushH => pushH | .ani d8 => ani d8
  | .rst4 => rst4 | .rpe => rpe | .pchl => pchl | .jpe a16 => jpe a16 | .xchg => xchg | .cpe a16 => cpe a16
  | .xri d8 => xri d8 | .rst5 => rst5 | .rp => rp | .popPSW => popPSW | .jp a16 => jp a16 | .di => di
  | .cp a16 => cp a16 | .pushPSW => pushPSW | .ori d8 => ori d8 | .rst6 => rst6 | .rm => rm | .sphl => sphl
  | .jm a16 => jm a16 | .ei => ei | .cm a16 => cm a16 | .cpi d8 => cpi d8 | .rst7 => rst7
/-- The byte of a well-formed instruction has the same entry under both catalogs. -/
theorem catalogByByte_opcodeOf {ext : CatalogExtent} {i : Instr} (h : i.wellFormed ext = true) :
    catalogByByte ext (Machine.opcodeOf i) = catalogByByte .full (Machine.opcodeOf i) := by
  cases ext with
  | full => rfl
  | docNamed =>
    cases i with
    | cma | stc | cmc => cases h
    | _ => rfl

theorem decode_encode {ext : CatalogExtent} {i : Instr} (h : i.wellFormed ext = true) (rest : List Byte) :
    decode ext (encode i ++ rest) = .ok (i, rest) := by
  have hcat := catalogByByte_opcodeOf h
  have hi := encodingMatchesCatalog i
  simp only [EncodingMatchesCatalog] at hi
  split at hi
  · next op he =>
    rw [Machine.opcodeOf, he] at hcat
    rw [he]
    exact decode_plain rest (hcat.trans hi)
  · next op d8 he =>
    obtain ⟨f, hf, rfl⟩ := hi
    rw [Machine.opcodeOf, he] at hcat
    rw [he]
    exact decode_data8 d8 rest (hcat.trans hf)
  · next op lo hi' he =>
    obtain ⟨f, hf, rfl⟩ := hi
    rw [Machine.opcodeOf, he] at hcat
    rw [he]
    exact decode_data16 lo hi' rest (hcat.trans hf)
  · exact hi.elim

/-! ## Decoding, then encoding -/

/-- What decodes was encoded in the format of the entry of its first byte. -/
theorem decode_eq_ok_format {ext : CatalogExtent} {bytes rest : List Byte} {i : Instr}
    (h : decode ext bytes = .ok (i, rest)) :
    ∃ op e d8 d16, catalogByByte ext op = some e ∧ e.instr d8 d16 = i ∧ bytes = e.format op d8 d16 ++ rest := by
  obtain ⟨op, ⟨rfl, hop⟩ | ⟨f, d8, rfl, hop, rfl⟩ | ⟨f, lo, hi, rfl, hop, rfl⟩⟩ := decode_eq_ok h
  · exact ⟨op, _, 0x00#8, 0x0000#16, hop, rfl, rfl⟩
  · exact ⟨op, _, d8, 0x0000#16, hop, rfl, rfl⟩
  · exact ⟨op, _, 0x00#8, joinBytes hi lo, hop, rfl, by simp [Entry.format, encodeData16]⟩

theorem eq_encode_of_decode {ext : CatalogExtent} {bytes rest : List Byte} {i : Instr}
    (h : decode ext bytes = .ok (i, rest)) : bytes = encode i ++ rest := by
  obtain ⟨op, e, d8, d16, hop, rfl, rfl⟩ := decode_eq_ok_format h
  rw [encode_instr (catalogByByte_full hop)]

theorem wellFormed_of_decode {ext : CatalogExtent} {bytes rest : List Byte} {i : Instr}
    (h : decode ext bytes = .ok (i, rest)) : i.wellFormed ext = true := by
  obtain rfl := eq_encode_of_decode h
  cases ext with
  | full => rfl
  | docNamed =>
    by_contra hwf
    have hi : i = .cma ∨ i = .stc ∨ i = .cmc := by
      by_contra hne
      simp_all [Instr.wellFormed, Instr.docNamed]
    rcases hi with rfl | rfl | rfl <;> cases h

/-- The number of bytes of an entry's format. -/
def Entry.length : Entry → Nat
  | .plain _ => 1
  | .data8 _ => 2
  | .data16 _ => 3

theorem length_format (op d8 : Byte) (d16 : Word) (e : Entry) : (e.format op d8 d16).length = e.length := by
  cases e <;> rfl

theorem length_bounds (e : Entry) : 1 ≤ e.length ∧ e.length ≤ 3 := by
  cases e <;> simp [Entry.length]

/-- The opcode byte of what decodes has an entry, of the length of the instruction's encoding. -/
theorem length_encode_of_decode {ext : CatalogExtent} {op : Byte} {rest tail : List Byte} {i : Instr}
    (h : decode ext (op :: rest) = .ok (i, tail)) :
    ∃ e, catalogByByte .full op = some e ∧ (encode i).length = e.length := by
  obtain ⟨op', e, d8, d16, hop, rfl, hbytes⟩ := decode_eq_ok_format h
  obtain rfl : op = op' := by cases e <;> exact (List.cons.inj hbytes).1
  have hfull := catalogByByte_full hop
  exact ⟨e, hfull, by rw [encode_instr hfull, length_format]⟩

/-! ## Unpopulated bytes -/

theorem decode_unknownOpcode_iff (ext : CatalogExtent) (op : Byte) (rest : List Byte) :
    decode ext (op :: rest) = .error (.unknownOpcode op) ↔ (catalogByByte ext op).isNone = true := by
  simp only [decode]
  split
  · next h => simp [h]
  · next h => simp [h]
  · next h => split <;> simp [h]
  · next h => split <;> simp [h]

theorem catalogByByte_isNone (ext : CatalogExtent) : ∀ op : Byte, (catalogByByte ext op).isNone = true ↔
    op ∈ [0x08#8, 0x10#8, 0x18#8, 0x28#8, 0x38#8, 0xCB#8, 0xD9#8, 0xDD#8, 0xED#8, 0xFD#8] ∨
      (ext = .docNamed ∧ op ∈ [0x2F#8, 0x37#8, 0x3F#8]) := by
  cases ext <;> decide +kernel

/-! ## Statements -/

/-- Settles O4: the entry of each opcode byte gives the instruction back from its operand bytes, one lemma for each row. -/
theorem decodeInvertsEncode : Obligations.DecodeInvertsEncode := fun _ _ rest h => decode_encode h rest

/-- Settles O5: every entry's instructions are encoded in the entry's format, which is what the decoder took apart. -/
theorem encodeInvertsDecode : Obligations.EncodeInvertsDecode :=
  fun _ _ _ _ h => ⟨eq_encode_of_decode h, wellFormed_of_decode h⟩

/-- Settles O6: the full catalog has one entry for the byte, and the entry's shape is the length. -/
theorem opcodeByteDecidesLength : Obligations.OpcodeByteDecidesLength := by
  intro ext ext' op rest rest' tail tail' i i' h h'
  obtain ⟨e, hop, hlen⟩ := length_encode_of_decode h
  obtain ⟨e', hop', hlen'⟩ := length_encode_of_decode h'
  obtain rfl : e = e' := Option.some.inj (hop.symm.trans hop')
  obtain ⟨hmin, hmax⟩ := length_bounds e
  exact ⟨hlen.trans hlen'.symm, hlen ▸ hmin, hlen ▸ hmax, by rw [eq_encode_of_decode h, List.length_append]⟩

/-- Settles O1: each word is read in its map cell. -/
theorem decodeReadsWordsOfTheSpec : Obligations.DecodeReadsWordsOfTheSpec :=
  ⟨rfl, rfl, rfl, rfl, rfl, rfl, rfl, rfl, rfl, rfl, rfl, rfl, rfl⟩

/-- Settles O2: the first entry with a byte is that byte's cell, and a byte of no entry has no cell. -/
theorem opcodeMapIsDescriptorExpansion : Obligations.OpcodeMapIsDescriptorExpansion := by
  refine ⟨fun op => ?_, catalogEntries_bytes_nodup, by decide +kernel⟩
  cases hfind : catalogEntries.find? fun e => e.1 == op with
  | some p =>
    obtain rfl : p.1 = op := by simpa using List.find?_some hfind
    exact opcodeCell_of_mem p (List.mem_of_find?_eq_some hfind)
  | none =>
    rw [List.find?_eq_none] at hfind
    refine Option.eq_none_iff_forall_ne_some.mpr fun e h => ?_
    exact hfind _ (mem_catalogEntries h) (beq_self_eq_true op)

/-- Settles O3: decoding refuses a byte by name exactly when the catalog has no entry for it. -/
theorem unpopulatedBytesAreRefused : Obligations.UnpopulatedBytesAreRefused :=
  fun ext op rest => (decode_unknownOpcode_iff ext op rest).trans (catalogByByte_isNone ext op)

end Sys2Proof
end

section
/-!
Proofs of the statements on the fetch (30_encoding.md R83 to R85, 60_exceptions.md R301 to R303). One equation or failure
for each thing the fetch can meet: an absent byte, a byte with no entry, and the three shapes of entry.
-/

namespace Sys2Proof.Machine

variable {s : State} {k : Instr → State → Result}

/-! ## The step -/

theorem step_of_faulted (h : s.faulted = true) : step s = raiseAlreadyFaulted s.beginStep := if_pos h

theorem step_of_not_faulted (h : s.faulted = false) : step s = fetchInstr s.beginStep exec := if_neg (by simp [h])

/-! ## The fetch -/

theorem failsAt_fetchInstr_opcode (h : s.present s.pc = false) : failsAt (fetchInstr s k) s.pc := by
  rw [fetchInstr, fetch8_absent _ h]
  exact failsAt_raise _ _

section
variable (h : s.present s.pc = true)
include h

theorem fetchInstr_unknown (hop : catalogByByte s.params.catalogExtent (s.byteAt s.pc) = none) :
    fetchInstr s k = raiseUnknownOpcode (s.byteAt s.pc) s.pc { s with pc := s.pc + 1#16 } := by
  rw [fetchInstr, fetch8_present _ h]
  simp only [hop]

theorem fetchInstr_plain {i : Instr}
    (hop : catalogByByte s.params.catalogExtent (s.byteAt s.pc) = some (.plain i)) :
    fetchInstr s k = k i { s with pc := s.pc + 1#16 } := by
  rw [fetchInstr, fetch8_present _ h]
  simp only [hop]

section
variable {f : Byte → Instr} (hop : catalogByByte s.params.catalogExtent (s.byteAt s.pc) = some (.data8 f))
include hop

theorem fetchInstr_data8 (h1 : s.present (s.pc + 1#16) = true) :
    fetchInstr s k = k (f (s.byteAt (s.pc + 1#16))) { s with pc := s.pc + 2#16 } := by
  rw [fetchInstr, fetch8_present _ h]
  simp only [hop]
  rw [fetchOperand_present (s := { s with pc := s.pc + 1#16 }) _ _ h1,
    show s.pc + 2#16 = s.pc + 1#16 + 1#16 by bv_omega]
  rfl

theorem failsAt_fetchInstr_data8 (h1 : s.present (s.pc + 1#16) = false) :
    failsAt (fetchInstr s k) (s.pc + 1#16) := by
  rw [fetchInstr, fetch8_present _ h]
  simp only [hop]
  rw [fetchOperand_absent (s := { s with pc := s.pc + 1#16 }) _ _ h1]
  exact failsAt_raise _ _

end

section
variable {f : Word → Instr} (hop : catalogByByte s.params.catalogExtent (s.byteAt s.pc) = some (.data16 f))
include hop

theorem fetchInstr_data16 (h1 : s.present (s.pc + 1#16) = true) (h2 : s.present (s.pc + 2#16) = true) :
    fetchInstr s k =
      k (f (joinBytes (s.byteAt (s.pc + 2#16)) (s.byteAt (s.pc + 1#16)))) { s with pc := s.pc + 3#16 } := by
  rw [show s.pc + 2#16 = s.pc + 1#16 + 1#16 by bv_omega] at h2 ⊢
  rw [fetchInstr, fetch8_present _ h, show s.pc + 3#16 = s.pc + 1#16 + 1#16 + 1#16 by bv_omega]
  simp only [hop]
  rw [fetchOperand_present (s := { s with pc := s.pc + 1#16 }) _ _ h1,
    fetchOperand_present (s := { s with pc := s.pc + 1#16 + 1#16 }) _ _ h2]
  rfl

theorem failsAt_fetchInstr_data16_low (h1 : s.present (s.pc + 1#16) = false) :
    failsAt (fetchInstr s k) (s.pc + 1#16) := by
  rw [fetchInstr, fetch8_present _ h]
  simp only [hop]
  rw [fetchOperand_absent (s := { s with pc := s.pc + 1#16 }) _ _ h1]
  exact failsAt_raise _ _

theorem failsAt_fetchInstr_data16_high (h1 : s.present (s.pc + 1#16) = true) (h2 : s.present (s.pc + 2#16) = false) :
    failsAt (fetchInstr s k) (s.pc + 2#16) := by
  rw [show s.pc + 2#16 = s.pc + 1#16 + 1#16 by bv_omega] at h2 ⊢
  rw [fetchInstr, fetch8_present _ h]
  simp only [hop]
  rw [fetchOperand_present (s := { s with pc := s.pc + 1#16 }) _ _ h1,
    fetchOperand_absent (s := { s with pc := s.pc + 1#16 + 1#16 }) _ _ h2]
  exact failsAt_raise _ _

end

end

/-- What a fetch can come to: an unpopulated byte, an absent one, or an instruction with pc past it. -/
theorem fetchInstr_outcome (s : State) (k : Instr → State → Result) :
    (∃ op a u, fetchInstr s k = raiseUnknownOpcode op a u) ∨
      (∃ a, failsAt (fetchInstr s k) a ∧ s.present a = false) ∨
      ∃ i p, fetchInstr s k = k i { s with pc := p } := by
  cases h : s.present s.pc
  · exact .inr (.inl ⟨_, failsAt_fetchInstr_opcode h, h⟩)
  cases hop : catalogByByte s.params.catalogExtent (s.byteAt s.pc) with
  | none => exact .inl ⟨_, _, _, fetchInstr_unknown h hop⟩
  | some e =>
    cases e with
    | plain i => exact .inr (.inr ⟨_, _, fetchInstr_plain h hop⟩)
    | data8 f =>
      cases h1 : s.present (s.pc + 1#16)
      · exact .inr (.inl ⟨_, failsAt_fetchInstr_data8 h hop h1, h1⟩)
      · exact .inr (.inr ⟨_, _, fetchInstr_data8 h hop h1⟩)
    | data16 f =>
      cases h1 : s.present (s.pc + 1#16)
      · exact .inr (.inl ⟨_, failsAt_fetchInstr_data16_low h hop h1, h1⟩)
      cases h2 : s.present (s.pc + 2#16)
      · exact .inr (.inl ⟨_, failsAt_fetchInstr_data16_high h hop h1 h2, h2⟩)
      · exact .inr (.inr ⟨_, _, fetchInstr_data16 h hop h1 h2⟩)

/-! ## The bytes of one instruction -/

theorem length_bytesAt (a : Word) (n : Nat) : (s.bytesAt a n).length = n := by
  induction n generalizing a with
  | zero => rfl
  | succ n ih => exact congrArg (· + 1) (ih (a + 1#16))

theorem take_bytesAt (a : Word) {m n : Nat} (h : m ≤ n) : (s.bytesAt a n).take m = s.bytesAt a m := by
  induction m generalizing a n with
  | zero => rfl
  | succ m ih =>
    obtain ⟨n, rfl⟩ := Nat.exists_eq_add_of_le' (Nat.zero_lt_of_lt h)
    exact congrArg (s.byteAt a :: ·) (ih (a + 1#16) (Nat.le_of_succ_le_succ h))

/-- When the `n` bytes at pc are present and are those of one instruction, the fetch goes on with it. -/
theorem fetchInstr_of_decode {i : Instr} {n : Nat} (hp : s.presentFrom s.pc n = true)
    (hd : decode s.params.catalogExtent (s.bytesAt s.pc n) = .ok (i, [])) :
    fetchInstr s k = k i { s with pc := s.pc + BitVec.ofNat 16 n } := by
  have hlen := length_bytesAt (s := s) s.pc n
  obtain ⟨op, ⟨hb, hop⟩ | ⟨f, d8, hb, hop, rfl⟩ | ⟨f, lo, hi, hb, hop, rfl⟩⟩ := decode_eq_ok hd
  all_goals
    rw [hb] at hlen
    subst hlen
    simp only [List.length_cons, List.length_nil, State.bytesAt, List.cons.injEq, and_true] at hb
    simp only [List.length_cons, List.length_nil, State.presentFrom, Bool.and_true, Bool.and_eq_true] at hp
  · subst hb
    exact fetchInstr_plain hp hop
  · obtain ⟨rfl, rfl⟩ := hb
    obtain ⟨h0, h1⟩ := hp
    exact fetchInstr_data8 h0 hop h1
  · obtain ⟨rfl, rfl, rfl⟩ := hb
    rw [show s.pc + 1#16 + 1#16 = s.pc + 2#16 by bv_omega] at hp ⊢
    obtain ⟨h0, h1, h2⟩ := hp
    exact fetchInstr_data16 h0 hop h1 h2

theorem step_of_decode {i : Instr} {n : Nat} (hf : s.faulted = false) (hp : s.presentFrom s.pc n = true)
    (hd : decode s.params.catalogExtent (s.bytesAt s.pc n) = .ok (i, [])) :
    step s = exec i { s with pc := s.pc + BitVec.ofNat 16 n, events := [] } := by
  rw [step_of_not_faulted hf]
  exact fetchInstr_of_decode (by simpa using hp) (by simpa using hd)

/-! ## Statements -/

/-- Settles O7: what decodes is the encoding and a rest, so the instruction's own bytes decode to it with no rest. -/
theorem stepRunsDecodedInstruction : Obligations.StepRunsDecodedInstruction := by
  intro s i tail hf hd hp
  have hbytes := eq_encode_of_decode hd
  have hle : (encode i).length ≤ 3 := by
    have := congrArg List.length hbytes
    rw [length_bytesAt, List.length_append] at this
    omega
  have hown : s.bytesAt s.pc (encode i).length = encode i := by
    rw [← take_bytesAt s.pc hle, hbytes, List.take_left]
  refine step_of_decode hf hp ?_
  have := decode_encode (wellFormed_of_decode hd) []
  rwa [List.append_nil, ← hown] at this

/-- Settles O8: the opcode fetch has moved pc, and the failure marks the state it is raised in. -/
theorem stepFailsOnUnpopulatedOpcode : Obligations.StepFailsOnUnpopulatedOpcode := by
  intro s hf hp hop
  rw [step_of_not_faulted hf, fetchInstr_unknown (s := s.beginStep) hp hop]
  rfl

/-- Settles O10: `fetchInstr` reads the opcode first and the operand bytes in address order. -/
theorem fetchBeyondMemoryFails : Obligations.FetchBeyondMemoryFails := by
  intro s hf
  rw [step_of_not_faulted hf]
  exact ⟨failsAt_fetchInstr_opcode (s := s.beginStep),
    fun f h h1 hop => failsAt_fetchInstr_data8 (s := s.beginStep) h hop h1,
    fun f h h1 hop => failsAt_fetchInstr_data16_low (s := s.beginStep) h hop h1,
    fun f h h1 h2 hop => failsAt_fetchInstr_data16_high (s := s.beginStep) h hop h1 h2⟩

end Sys2Proof.Machine
end

section
/-!
Proofs of the statements about every instruction: what may be written (10_state.md R27, R29, R31, 20_memory.md R56), what
no instruction changes, and how a step can end (60_exceptions.md R300 to R304). They rest on one lemma, `exec_ends`: an
instruction completes with no write beyond those of its opcode byte, or fails at an absent address.
-/

namespace Sys2Proof.Machine

/-! ## What may be written -/

/-- The parts of the state that an instruction may write, registers, events and draws apart. -/
structure Writes where
  pc : Bool := false
  sp : Bool := false
  mem : Bool := false
  flags : List FlagName := []

/-- What `w` allows, `w'` allows. -/
def Writes.le (w w' : Writes) : Bool :=
  (!w.pc || w'.pc) && (!w.sp || w'.sp) && (!w.mem || w'.mem) && w.flags.all w'.flags.contains

/-- From `s` to `t` nothing beyond `w` was written; the parameters and the Faulted mark were not, memory kept its canonical
form and its bound, and the hard-wired bits of `im` stayed 0. -/
structure Within (w : Writes) (s t : State) : Prop where
  params : t.params = s.params
  faulted : t.faulted = s.faulted
  wf : s.mem.wf = true → t.mem.wf = true
  below : s.mem.below s.params.memSize = true → t.mem.below s.params.memSize = true
  im : s.im &&& ~~~(imImplemented s.params.imModel) = 0#8 → t.im &&& ~~~(imImplemented s.params.imModel) = 0#8
  pc : w.pc = false → t.pc = s.pc
  sp : w.sp = false → t.sp = s.sp
  mem : w.mem = false → t.mem = s.mem
  flags : keepsFlags w.flags s t

section
variable {w : Writes} {s t : State}

theorem Within.mono {w' : Writes} (h : Within w s t) (hw : w.le w' = true) : Within w' s t := by
  simp only [Writes.le, Bool.and_eq_true, Bool.or_eq_true, Bool.not_eq_true', List.all_eq_true,
    List.contains_iff_mem] at hw
  obtain ⟨⟨⟨hpc, hsp⟩, hmem⟩, hflags⟩ := hw
  exact { h with
    pc := fun h' => h.pc (hpc.resolve_right (by simp [h']))
    sp := fun h' => h.sp (hsp.resolve_right (by simp [h']))
    mem := fun h' => h.mem (hmem.resolve_right (by simp [h']))
    flags := fun n hn => h.flags n fun hn' => hn (hflags n hn') }

/-- An update of registers, events and draws, and of flags, pc and sp where `w` allows it. -/
theorem within_update {g : Regs} {f : Flags} {p q : Word} {e : List Event} {d : Nat}
    (hf : ∀ n, n ∉ w.flags → f.get n = s.flags.get n) (hp : w.pc = false → p = s.pc) (hq : w.sp = false → q = s.sp) :
    Within w s { s with regs := g, flags := f, pc := p, sp := q, events := e, draws := d } :=
  { params := rfl, faulted := rfl, wf := id, below := id, im := id, pc := hp, sp := hq, mem := fun _ => rfl
    flags := hf }

/-- Registers, events and draws are free. -/
theorem within_regs {g : Regs} {e : List Event} {d : Nat} :
    Within w s { s with regs := g, events := e, draws := d } :=
  within_update (fun _ _ => rfl) (fun _ => rfl) (fun _ => rfl)

theorem within_regs_flags {g : Regs} {f : Flags} (hf : ∀ n, n ∉ w.flags → f.get n = s.flags.get n) :
    Within w s { s with regs := g, flags := f } :=
  within_update hf (fun _ => rfl) (fun _ => rfl)

theorem within_writeIm (v : Byte) : Within w s (s.writeIm v) :=
  { params := rfl, faulted := rfl, wf := id, below := id, pc := fun _ => rfl, sp := fun _ => rfl, mem := fun _ => rfl
    flags := fun _ _ => rfl
    im := fun _ => by simp [BitVec.and_assoc] }

theorem Within.setByte (h : Within w s t) (hw : w.mem = true) {a : Word} (ha : s.present a = true) (v : Byte) :
    Within w s (t.setByte a v) :=
  { h with
    wf := fun hs => setByte_wf t (h.wf hs) a v
    below := fun hs => write_below v (h.below hs) (by simpa [State.present] using ha)
    mem := fun h' => by simp [hw] at h' }

end

/-! ## How a meaning ends -/

/-- A meaning that began in `s` completes with no write beyond `w`, or fails at an absent address. -/
def Ends (w : Writes) (s : State) (r : Result) : Prop :=
  (∃ t, r = .next t ∧ Within w s t) ∨ ∃ a, failsAt r a ∧ s.present a = false

section
variable {w : Writes} {s : State}

theorem Ends.mono {w' : Writes} {r : Result} (h : Ends w s r) (hw : w.le w' = true) : Ends w' s r :=
  h.imp_left fun ⟨t, ht, hwith⟩ => ⟨t, ht, hwith.mono hw⟩

theorem ends_next {t : State} (h : Within w s t) : Ends w s (.next t) := .inl ⟨t, rfl, h⟩

theorem ends_ite {c : Prop} [Decidable c] {q r : Result} (hq : Ends w s q) (hr : Ends w s r) :
    Ends w s (if c then q else r) := by
  split
  · exact hq
  · exact hr

theorem present_congr {u : State} (hu : u.params = s.params) (a : Word) : u.present a = s.present a := by
  rw [State.present, State.present, hu]

theorem ends_memRead {u : State} (hu : u.params = s.params) {a : Word} {k : Byte → Result}
    (hk : ∀ x, Ends w s (k x)) : Ends w s (memRead u a k) := by
  cases ha : u.present a
  · rw [memRead_absent k ha]
    exact .inr ⟨a, failsAt_raise a u, (present_congr hu a).symm.trans ha⟩
  · rw [memRead_present k ha]
    exact hk _

theorem ends_memWrite {u : State} (hu : Within w s u) (hw : w.mem = true) {a : Word} {x : Byte} {k : State → Result}
    (hk : ∀ t, Within w s t → Ends w s (k t)) : Ends w s (memWrite u a x k) := by
  cases ha : u.present a
  · rw [memWrite_absent x k ha]
    exact .inr ⟨a, failsAt_raise a u, (present_congr hu.params a).symm.trans ha⟩
  · rw [memWrite_present x k ha]
    exact hk _ (hu.setByte hw ((present_congr hu.params a).symm.trans ha) x)

theorem ends_settlePartial {b : State} {r : Result} (h : Ends w s r) : Ends w s (settlePartial b r) := by
  rcases h with ⟨t, rfl, ht⟩ | ⟨a, hr, ha⟩
  · exact ends_next ht
  · exact .inr ⟨a, failsAt_settlePartial hr, ha⟩

theorem ends_andThen {r : Result} {k : State → Result} (h : Ends w s r) (hk : ∀ t, Within w s t → Ends w s (k t)) :
    Ends w s (andThen r k) := by
  rcases h with ⟨t, rfl, ht⟩ | ⟨a, hr, ha⟩
  · exact hk t ht
  · exact .inr ⟨a, failsAt_andThen k hr, ha⟩

end

/-! ## The shared operations -/

section
variable {w : Writes} (s : State)

theorem ends_src8 (o : Operand8) {k : Byte → Result} (hk : ∀ x, Ends w s (k x)) : Ends w s (src8 o s k) := by
  cases o with
  | reg r => exact hk _
  | m => exact ends_memRead rfl hk

/-- A register operand needs no leave to write memory. -/
theorem ends_dst8 (o : Operand8) {u : State} (hu : Within w s u) (hw : o = .m → w.mem = true) (v : Byte)
    (hreg : ∀ r, Within w s (u.setReg r v)) : Ends w s (dst8 o u v) := by
  cases o with
  | reg r => exact ends_next (hreg r)
  | m => exact ends_memWrite hu (hw rfl) fun _ => ends_next

theorem ends_withOperand (o : Operand8) {f : Byte → State → State} (hf : ∀ v, Within w s (f v s)) :
    Ends w s (withOperand o s f) := ends_src8 s o fun v => ends_next (hf v)

theorem ends_push (hsp : w.sp = true) (hmem : w.mem = true) (x : Word) : Ends w s (push x s) :=
  ends_settlePartial <|
    ends_memWrite (within_update (fun _ _ => rfl) (fun _ => rfl) fun h => by simp [hsp] at h) hmem fun _ h1 =>
      ends_memWrite h1 hmem fun _ => ends_next

theorem ends_stackRead {k : Word → Result} (hk : ∀ x, Ends w s (k x)) : Ends w s (stackRead s k) :=
  ends_memRead rfl fun _ => ends_memRead rfl fun _ => hk _

theorem ends_callTo (hpc : w.pc = true) (hsp : w.sp = true) (hmem : w.mem = true) (a : Word) :
    Ends w s (callTo a s) :=
  ends_andThen (ends_push s hsp hmem s.pc) fun _ h =>
    ends_next { h with pc := fun h' => by simp [hpc] at h' }

theorem ends_returnFrom (hpc : w.pc = true) (hsp : w.sp = true) : Ends w s (returnFrom s) := by
  rw [returnFrom, pop]
  refine ends_stackRead s fun x => ends_next (within_update (fun _ _ => rfl) (fun h => ?_) fun h => ?_)
  · simp [hpc] at h
  · simp [hsp] at h

theorem ends_loadHLDirect (a : Word) : Ends w s (loadHLDirect a s) :=
  ends_settlePartial <| ends_memRead rfl fun x =>
    ends_memRead (s := s) (u := s.setReg .l x) rfl fun _ => ends_next within_regs

theorem ends_storeHLDirect (hmem : w.mem = true) (a : Word) : Ends w s (storeHLDirect a s) :=
  ends_settlePartial <| ends_memWrite within_regs hmem fun _ h => ends_memWrite h hmem fun _ => ends_next

theorem ends_exchangeTopHL (hmem : w.mem = true) : Ends w s (exchangeTopHL s) :=
  ends_stackRead s fun _ => ends_memWrite within_regs hmem fun _ h => ends_memWrite h hmem fun _ h' =>
    ends_next { h' with }

theorem within_setPairSP (p : PairSP) (hsp : p = .sp → w.sp = true) (x : Word) : Within w s (s.setPairSP p x) := by
  cases p with
  | rp p => exact within_regs
  | sp => exact within_update (fun _ _ => rfl) (fun _ => rfl) fun h => by simp [hsp rfl] at h

theorem ends_popInto (p : PairPSW) (hsp : w.sp = true) (hf : p = .psw → w.flags = [.s, .z, .ac, .p, .c]) :
    Ends w s (popInto p s) :=
  ends_stackRead s fun x => ends_next <| by
    cases p with
    | rp p => exact within_update (fun _ _ => rfl) (fun _ => rfl) fun h => by simp [hsp] at h
    | psw => exact within_update (hf rfl ▸ fun _ => flag_is_named) (fun _ => rfl) fun h => by simp [hsp] at h

theorem ends_setInterruptMask : Ends w s (setInterruptMask s) := by
  simp only [setInterruptMask]
  split
  · exact ends_next (within_writeIm _)
  · refine ends_next ?_
    rw [setMaskStandard]
    split
    · exact within_writeIm _
    · exact within_regs

end

/-! ## The opcode bytes that write each part -/

/-- R27. -/
def pcWriters : List Byte :=
  [0xC3#8, 0xE9#8, 0xCD#8, 0xC9#8,
   0xC2#8, 0xCA#8, 0xD2#8, 0xDA#8, 0xE2#8, 0xEA#8, 0xF2#8, 0xFA#8,
   0xC4#8, 0xCC#8, 0xD4#8, 0xDC#8, 0xE4#8, 0xEC#8, 0xF4#8, 0xFC#8,
   0xC0#8, 0xC8#8, 0xD0#8, 0xD8#8, 0xE0#8, 0xE8#8, 0xF0#8, 0xF8#8,
   0xC7#8, 0xCF#8, 0xD7#8, 0xDF#8, 0xE7#8, 0xEF#8, 0xF7#8, 0xFF#8]

/-- R29. -/
def spWriters : List Byte :=
  [0x31#8, 0x33#8, 0x3B#8, 0xF9#8, 0xC5#8, 0xD5#8, 0xE5#8, 0xF5#8, 0xC1#8, 0xD1#8, 0xE1#8, 0xF1#8,
   0xCD#8, 0xC4#8, 0xCC#8, 0xD4#8, 0xDC#8, 0xE4#8, 0xEC#8, 0xF4#8, 0xFC#8,
   0xC9#8, 0xC0#8, 0xC8#8, 0xD0#8, 0xD8#8, 0xE0#8, 0xE8#8, 0xF0#8, 0xF8#8,
   0xC7#8, 0xCF#8, 0xD7#8, 0xDF#8, 0xE7#8, 0xEF#8, 0xF7#8, 0xFF#8]

/-- R56. -/
def memoryWriters : List Byte :=
  [0x70#8, 0x71#8, 0x72#8, 0x73#8, 0x74#8, 0x75#8, 0x77#8, 0x36#8, 0x34#8, 0x35#8,
   0x32#8, 0x02#8, 0x12#8, 0x22#8, 0xC5#8, 0xD5#8, 0xE5#8, 0xF5#8, 0xCD#8, 0xE3#8,
   0xC4#8, 0xCC#8, 0xD4#8, 0xDC#8, 0xE4#8, 0xEC#8, 0xF4#8, 0xFC#8,
   0xC7#8, 0xCF#8, 0xD7#8, 0xDF#8, 0xE7#8, 0xEF#8, 0xF7#8, 0xFF#8]

/-- R31: INR and DCR. -/
def stepWriters : List Byte :=
  [0x04#8, 0x0C#8, 0x14#8, 0x1C#8, 0x24#8, 0x2C#8, 0x34#8, 0x3C#8,
   0x05#8, 0x0D#8, 0x15#8, 0x1D#8, 0x25#8, 0x2D#8, 0x35#8, 0x3D#8]

/-- R31: DAD, the rotates, STC and CMC. -/
def carryWriters : List Byte :=
  [0x09#8, 0x19#8, 0x29#8, 0x39#8, 0x07#8, 0x0F#8, 0x17#8, 0x1F#8, 0x37#8, 0x3F#8]

/-- R31: DAA, the immediate forms and POP PSW; the other writers of all five flags are the bytes 80 to BF. -/
def flagWriters : List Byte := [0x27#8, 0xC6#8, 0xCE#8, 0xD6#8, 0xDE#8, 0xE6#8, 0xEE#8, 0xF6#8, 0xFE#8, 0xF1#8]

def flagsWritten (op : Byte) : List FlagName :=
  if op ∈ stepWriters then [.s, .z, .ac, .p]
  else if op ∈ carryWriters then [.c]
  else if op ∈ flagWriters ∨ op.toNat / 64 = 2 then [.s, .z, .ac, .p, .c]
  else []

theorem flagsWritten_of_stepWriters : ∀ op ∈ stepWriters, flagsWritten op = [.s, .z, .ac, .p] := by decide

theorem flagsWritten_of_carryWriters : ∀ op ∈ carryWriters, flagsWritten op = [.c] := by decide

theorem flagsWritten_eq_nil {op : Byte} (hstep : op ∉ stepWriters) (hcarry : op ∉ carryWriters)
    (hall : op ∉ flagWriters) (h64 : op.toNat / 64 ≠ 2) : flagsWritten op = [] := by
  rw [flagsWritten, if_neg hstep, if_neg hcarry, if_neg (not_or.mpr ⟨hall, h64⟩)]

/-- The writes of an opcode byte. -/
def writesOf (op : Byte) : Writes :=
  { pc := decide (op ∈ pcWriters), sp := decide (op ∈ spWriters), mem := decide (op ∈ memoryWriters)
    flags := flagsWritten op }

/-! ## Every instruction -/

theorem flags_eq_of_get {f g : Flags} (h : ∀ n, f.get n = g.get n) : f = g := by
  cases f
  cases g
  congr
  exacts [h .s, h .z, h .ac, h .p, h .c]

theorem get_szp_withAC_carry (f : Flags) (r : Byte) (x : Bool) {n : FlagName} (h : n ∉ [FlagName.s, .z, .ac, .p]) :
    ((f.szp r).withAC x).get n = f.get n := by
  cases n with
  | c => rfl
  | _ => simp at h

/-- Every instruction completes with no write beyond those of its opcode byte, or fails at an absent address. -/
theorem exec_ends (i : Instr) (s : State) : Ends (writesOf (opcodeOf i)) s (exec i s) := by
  cases instr_form i with
  | movRegReg dst src => rw [exec_movRegReg]; exact ends_next within_regs
  | movRegMem r => rw [exec_movRegMem]; exact ends_src8 s .m fun _ => ends_next within_regs
  | movMemReg r =>
    rw [exec_movMemReg]
    exact ends_memWrite within_regs (by cases r <;> rfl) fun _ => ends_next
  | mvi o d8 =>
    cases o with
    | reg r => rw [exec_mvi_reg]; exact ends_next within_regs
    | m => exact ends_memWrite within_regs rfl fun _ => ends_next
  | lxi p d16 => rw [exec_lxi]; exact ends_next (within_setPairSP s p (by rintro rfl; rfl) _)
  | inx p => rw [exec_inx]; exact ends_next (within_setPairSP s p (by rintro rfl; rfl) _)
  | dcx p => rw [exec_dcx]; exact ends_next (within_setPairSP s p (by rintro rfl; rfl) _)
  | dad p =>
    rw [exec_dad]
    refine Ends.mono (w := { flags := [.c] }) (ends_next ?_) (by rcases p with (_ | _ | _) | _ <;> rfl)
    exact within_regs_flags fun _ => get_withC_other _ _
  | ldax p => rw [exec_ldax]; exact ends_memRead rfl fun _ => ends_next within_regs
  | lda a16 => exact ends_memRead rfl fun _ => ends_next within_regs
  | stax p => rw [exec_stax]; exact ends_memWrite within_regs (by cases p <;> rfl) fun _ => ends_next
  | sta a16 => exact ends_memWrite within_regs rfl fun _ => ends_next
  | lhld a16 => exact ends_loadHLDirect s a16
  | shld a16 => exact ends_storeHLDirect s rfl a16
  | push p =>
    rw [exec_push]
    exact ends_push s (by rcases p with (_ | _ | _) | _ <;> rfl) (by rcases p with (_ | _ | _) | _ <;> rfl) _
  | pop p => rw [exec_pop]; exact ends_popInto s p (by rcases p with (_ | _ | _) | _ <;> rfl) (by rintro rfl; rfl)
  | xthl => exact ends_exchangeTopHL s rfl
  | add o | adc o | sub o | sbb o | ana o | xra o | ora o | cmp o =>
    refine Ends.mono (w := { flags := [.s, .z, .ac, .p, .c] }) ?_
      (by rcases o with (_ | _ | _ | _ | _ | _ | _) | _ <;> rfl)
    simp only [exec_add, exec_adc, exec_sub, exec_sbb, exec_ana, exec_xra, exec_ora, exec_cmp]
    exact ends_withOperand s o fun _ => within_regs_flags fun _ => flag_is_named
  | adi d8 | aci d8 | sui d8 | sbi d8 | ani d8 | xri d8 | ori d8 | cpi d8 =>
    exact ends_next (within_regs_flags fun _ => flag_is_named)
  | inr o | dcr o =>
    refine Ends.mono (w := { mem := decide (o = .m), flags := [.s, .z, .ac, .p] }) ?_
      (by rcases o with (_ | _ | _ | _ | _ | _ | _) | _ <;> rfl)
    simp only [exec_inr, exec_dcr]
    refine ends_src8 s o fun v => ends_dst8 s o ?_ (by rintro rfl; rfl) _ fun r => ?_
    all_goals exact within_regs_flags fun _ => get_szp_withAC_carry _ _ _
  | daa =>
    rw [exec_daa, decimalAdjust]
    split
    · exact ends_next (within_regs_flags fun _ => flag_is_named)
    · exact ends_next within_regs
  | rlc | rrc | ral | rar | stc | cmc => exact ends_next (within_regs_flags fun _ => get_withC_other _ _)
  | jcc cc a16 =>
    rw [exec_jcc]
    refine Ends.mono (w := { pc := true }) (ends_ite (ends_next ?_) (ends_next within_regs)) (by cases cc <;> rfl)
    exact within_update (fun _ _ => rfl) nofun fun _ => rfl
  | ccc cc a16 =>
    rw [exec_ccc]
    exact Ends.mono (w := { pc := true, sp := true, mem := true })
      (ends_ite (ends_callTo s rfl rfl rfl a16) (ends_next within_regs)) (by cases cc <;> rfl)
  | rcc cc =>
    rw [exec_rcc]
    exact Ends.mono (w := { pc := true, sp := true })
      (ends_ite (ends_returnFrom s rfl rfl) (ends_next within_regs)) (by cases cc <;> rfl)
  | rst n =>
    rw [exec_rst]
    exact Ends.mono (w := { pc := true, sp := true, mem := true }) (ends_callTo s rfl rfl rfl _)
      (by fin_cases n <;> rfl)
  | call a16 => exact ends_callTo s rfl rfl rfl a16
  | ret => exact ends_returnFrom s rfl rfl
  | jmp | pchl => exact ends_next (within_update (fun _ _ => rfl) nofun fun _ => rfl)
  | sphl => exact ends_next (within_update (fun _ _ => rfl) (fun _ => rfl) nofun)
  | sim => exact ends_setInterruptMask s
  | ei | di => exact ends_next (within_writeIm _)
  | nop | hlt | rim | inPort | outPort | cma | xchg => exact ends_next within_regs

/-- An instruction that completes has written no more than its opcode byte lets it. -/
theorem within_of_exec {i : Instr} {s t : State} (h : exec i s = .next t) : Within (writesOf (opcodeOf i)) s t := by
  rcases exec_ends i s with ⟨u, hu, hwith⟩ | ⟨a, ⟨u, hu, -⟩, -⟩
  · rw [h] at hu
    exact Host.Outcome.next.inj hu ▸ hwith
  · rw [h] at hu
    cases hu

/-! ## Statements -/

/-- Settles O13: what `exec` completes in is within its writes, and the fetch changes only pc and events. -/
theorem stepKeepsInvariant : Obligations.StepKeepsInvariant := by
  rintro s t ⟨hwf, hbelow, hparams, him, hfaulted⟩ h
  obtain ⟨-, i, n, -, -, -, -, hexec⟩ := step_eq_next h
  have hwith := within_of_exec hexec
  have hp : t.params = s.params := hwith.params
  refine ⟨⟨hwith.wf hwf, ?_, ?_, ?_, hwith.faulted.trans hfaulted⟩, hp⟩
  · rw [hp]
    exact hwith.below hbelow
  · rwa [hp]
  · rw [hp]
    exact hwith.im him

/-- Settles O9: a fetch fails marked or goes on with `exec`, which fails marked or leaves the mark as it was. -/
theorem faultedStateHasNoTransition : Obligations.FaultedStateHasNoTransition := by
  refine ⟨fun s h => step_of_faulted h, fun s h => ?_⟩
  rw [step_of_not_faulted h]
  obtain ⟨op, a, u, hr⟩ | ⟨a, ⟨u, hr, hu⟩, -⟩ | ⟨i, p, hr⟩ := fetchInstr_outcome s.beginStep exec
  · exact .inr (.inl ⟨op, a, _, hr, rfl⟩)
  · exact .inr (.inr ⟨a, u, hr, hu⟩)
  · rw [hr]
    obtain ⟨t, ht, hwith⟩ | ⟨a, ⟨u, hu, hm⟩, -⟩ := exec_ends i { s.beginStep with pc := p }
    · exact .inl ⟨t, ht, hwith.faulted.trans h⟩
    · exact .inr (.inr ⟨a, u, hu, hm⟩)

/-- Settles O12: the address that `exec_ends` fails at would be absent. -/
theorem everyInstructionCompletesInFullMemory : Obligations.EveryInstructionCompletesInFullMemory := by
  intro i s h
  obtain ⟨t, ht, hwith⟩ | ⟨a, -, ha⟩ := exec_ends i s
  · exact ⟨t, ht, hwith.params, hwith.faulted⟩
  · simp [present_of_full s h] at ha

/-- Settles O11: neither the fetch nor the instruction meets an absent address. -/
theorem fullMemoryIsNeverOutOfRange : Obligations.FullMemoryIsNeverOutOfRange := by
  intro s t a hfull
  cases hf : s.faulted
  · rw [step_of_not_faulted hf]
    obtain ⟨op, b, u, hr⟩ | ⟨b, -, hb⟩ | ⟨i, p, hr⟩ := fetchInstr_outcome s.beginStep exec
    · rw [hr]
      nofun
    · simp [present_of_full s hfull] at hb
    · obtain ⟨u, hu, -⟩ := everyInstructionCompletesInFullMemory i { s.beginStep with pc := p } hfull
      rw [hr, hu]
      nofun
  · rw [step_of_faulted hf]
    nofun

/-- Settles O18: pc and sp are in the writes of the listed opcode bytes alone. -/
theorem writersOfProgramCounterAndStackPointer : Obligations.WritersOfProgramCounterAndStackPointer :=
  fun _ _ _ h => ⟨fun hop => (within_of_exec h).pc (decide_eq_false hop),
    fun hop => (within_of_exec h).sp (decide_eq_false hop)⟩

/-- Settles O19: memory is in the writes of the listed opcode bytes alone. -/
theorem onlyStoringInstructionsChangeMemory : Obligations.OnlyStoringInstructionsChangeMemory := by
  intro i s t h hop a
  rw [State.byteAt, State.byteAt, (within_of_exec h).mem (decide_eq_false hop)]

/-- Settles O20: `flagsWritten` names the flags by opcode byte. -/
theorem writersOfFlags : Obligations.WritersOfFlags := by
  intro i s t h
  have hflags : keepsFlags (flagsWritten (opcodeOf i)) s t := (within_of_exec h).flags
  refine ⟨fun hop h64 => ?none, fun hop => ?step, fun hop => ?carry⟩
  case none =>
    have hnil := flagsWritten_eq_nil (fun h' => hop ((by decide : stepWriters ⊆ _) h'))
      (fun h' => hop ((by decide : carryWriters ⊆ _) h')) (fun h' => hop ((by decide : flagWriters ⊆ _) h')) h64
    rw [hnil] at hflags
    exact flags_eq_of_get fun n => hflags n List.not_mem_nil
  case step => rwa [flagsWritten_of_stepWriters _ hop] at hflags
  case carry => rwa [flagsWritten_of_carryWriters _ hop] at hflags

/-- Settles O14: nothing has been written to memory, and the mark is clear. -/
theorem constructionMeetsInvariant : Obligations.ConstructionMeetsInvariant := by
  have hnew (p : Params) (r : ResetState) (hp : p.wellFormed = true)
      (him : r.im &&& ~~~(imImplemented p.imModel) = 0#8) : Inv (State.construct p r) := ⟨rfl, rfl, hp, him, rfl⟩
  exact ⟨hnew, hnew Params.default ResetState.default rfl rfl⟩

end Sys2Proof.Machine
end

section
/-!
Proof of the statement that the interrupt mask never steers execution (10_state.md R34, 60_exceptions.md R306). The fetch
does not look at `im`; of the instructions only EI, DI, SIM and RIM do (`exec_withIm`), and of these only RIM lets it out,
into A.
-/

namespace Sys2Proof.Machine

theorem presentFrom_withIm (s : State) (v : Byte) (a : Word) (n : Nat) :
    ({ s with im := v } : State).presentFrom a n = s.presentFrom a n := by
  induction n generalizing a with
  | zero => rfl
  | succ n ih => exact congrArg (s.present a && ·) (ih (a + 1#16))

theorem bytesAt_withIm (s : State) (v : Byte) (a : Word) (n : Nat) :
    ({ s with im := v } : State).bytesAt a n = s.bytesAt a n := by
  induction n generalizing a with
  | zero => rfl
  | succ n ih => exact congrArg (s.byteAt a :: ·) (ih (a + 1#16))

/-- The first byte of a decoded instruction is its opcode byte. -/
theorem byteAt_pc_of_decode {s : State} {i : Instr} {n : Nat} (hn : 1 ≤ n)
    (hd : decode s.params.catalogExtent (s.bytesAt s.pc n) = .ok (i, [])) : s.byteAt s.pc = opcodeOf i := by
  obtain ⟨n, rfl⟩ := Nat.exists_eq_add_of_le' hn
  have hbytes := eq_encode_of_decode hd
  rw [List.append_nil] at hbytes
  rw [opcodeOf, ← hbytes]
  rfl

/-- With another mask an instruction completes in the same state, but for the mask and, after RIM, A. -/
theorem exec_withIm_eq_next {i : Instr} {s t : State} (v : Byte) (h : exec i s = .next t) :
    ∃ m g, exec i { s with im := v } = .next { t with im := m, regs := g } ∧
      ∀ r : Reg, (r ≠ .a ∨ opcodeOf i ≠ 0x20#8) → g.get r = t.reg r := by
  by_cases hi : opcodeOf i ∈ [0xFB#8, 0xF3#8, 0x30#8, 0x20#8]
  case neg =>
    rw [exec_withIm hi, h]
    exact ⟨v, t.regs, rfl, fun _ _ => rfl⟩
  case pos =>
    have hmc : MachineControl i :=
      machineControl_of_opcodeOf ((by decide : [0xFB#8, 0xF3#8, 0x30#8, 0x20#8] ⊆ _) hi)
    cases hmc with
    | nop | hlt | inPort | outPort => exact absurd hi (of_decide_eq_false rfl)
    | ei | di =>
      cases h
      exact ⟨_, s.regs, rfl, fun _ _ => rfl⟩
    | sim =>
      rw [exec_sim, setInterruptMask_eq] at h ⊢
      cases h
      exact ⟨_, s.regs, rfl, fun _ _ => rfl⟩
    | rim =>
      cases h
      refine ⟨v, _, rfl, fun r hr => ?_⟩
      have hne : r ≠ .a := hr.resolve_right (by simp [opcodeOf_rim])
      exact (get_set_other _ _ hne).trans (get_set_other _ _ hne).symm

/-- Settles O17: both steps fetch the same instruction. -/
theorem interruptMaskNeverSteersExecution : Obligations.InterruptMaskNeverSteersExecution := by
  intro s t v h
  obtain ⟨hf, i, n, hn, -, hp, hd, hexec⟩ := step_eq_next h
  obtain ⟨m, g, hexec', hregs⟩ := exec_withIm_eq_next v hexec
  have hstep := step_of_decode (s := { s with im := v }) hf ((presentFrom_withIm s v s.pc n).trans hp)
    ((congrArg _ (bytesAt_withIm s v s.pc n)).trans hd)
  refine ⟨_, hstep.trans hexec', rfl, rfl, rfl, rfl, rfl, rfl, rfl, rfl, ?_⟩
  rwa [byteAt_pc_of_decode hn hd]

end Sys2Proof.Machine
end

section
/-!
Proofs of the statements on data transfer (40_data_transfer.md R100 to R112). Each meaning is a register update, one byte
load, one byte store, or two loads or stores one above the other; the loads and stores are described once.
-/

namespace Sys2Proof.Machine

/-! ## Encodings -/

theorem encode_movRegReg (dst src : Reg) :
    encode (.movRegReg dst src) = [BitVec.ofNat 8 (0x40 + 8 * dst.offset + src.offset)] := by
  cases dst <;> cases src <;> rfl

theorem encode_movRegMem (dst : Reg) : encode (.movRegMem dst) = [BitVec.ofNat 8 (0x46 + 8 * dst.offset)] := by
  cases dst <;> rfl

theorem encode_movMemReg (src : Reg) : encode (.movMemReg src) = [BitVec.ofNat 8 (0x70 + src.offset)] := by
  cases src <;> rfl

theorem encode_mvi_reg (dst : Reg) (d8 : Byte) :
    encode (.mvi (.reg dst) d8) = [BitVec.ofNat 8 (0x06 + 8 * dst.offset), d8] := by
  cases dst <;> rfl

theorem encode_lxi (p : PairSP) (d16 : Word) :
    encode (.lxi p d16) = [BitVec.ofNat 8 (0x01 + 0x10 * p.code), loByte d16, hiByte d16] := by
  rcases p with (_ | _ | _) | _ <;> rfl

theorem encode_ldax (p : PairBD) : encode (.ldax p) = [BitVec.ofNat 8 (0x0A + 0x10 * p.code)] := by
  cases p <;> rfl

theorem encode_stax (p : PairBD) : encode (.stax p) = [BitVec.ofNat 8 (0x02 + 0x10 * p.code)] := by
  cases p <;> rfl

/-! ## Updates -/

section
variable (s : State)

theorem setReg_self (r : Reg) : s.setReg r (s.reg r) = s := by cases r <;> rfl

@[simp] theorem reg_pairHigh_setPair (p : Pair) (w : Word) : (s.setPair p w).reg (pairHigh p) = hiByte w := by
  cases p <;> rfl

@[simp] theorem reg_pairLow_setPair (p : Pair) (w : Word) : (s.setPair p w).reg (pairLow p) = loByte w := by
  cases p <;> rfl

theorem exchangeDEHL_eq : exchangeDEHL s = .next { s with
    regs := { s.regs with d := s.regs.h, e := s.regs.l, h := s.regs.d, l := s.regs.e } } := by
  simp [exchangeDEHL, State.setPair, State.pair, State.setReg, State.reg, pairHigh, pairLow, Regs.get, Regs.set]

/-- Two bytes stored one after the other, at different addresses. -/
theorem byteAt_setByte_setByte (h : s.mem.wf = true) {a b : Word} (hne : b ≠ a) (v w : Byte) :
    ((s.setByte a v).setByte b w).byteAt a = v ∧ ((s.setByte a v).setByte b w).byteAt b = w := by
  have h' := setByte_wf s h a v
  exact ⟨(byteAt_setByte_other _ h' w hne.symm).trans (byteAt_setByte_same s h a v), byteAt_setByte_same _ h' b w⟩

theorem keepsBut_setByte_setByte (h : s.mem.wf = true) (a b : Word) (v w : Byte) :
    keepsBut [] [] [a, b] s ((s.setByte a v).setByte b w) := by
  refine ⟨fun _ _ => rfl, fun _ _ => rfl, fun c hc => ?_, rfl, rfl, rfl, rfl, rfl⟩
  simp only [List.mem_cons, List.not_mem_nil, or_false, not_or] at hc
  rw [byteAt_setByte_other _ (setByte_wf s h a v) w hc.2, byteAt_setByte_other s h v hc.1]

end

/-! ## Loads and stores -/

/-- What a one-byte load into register `r` does (R101, R106, R110). -/
theorem load_spec (s : State) (r : Reg) (a : Word) {res : Result}
    (hres : res = memRead s a fun v => .next (s.setReg r v)) :
    (s.present a = true → ∃ t, res = .next t ∧ t.reg r = s.byteAt a ∧
      keepsBut [r] [] [] s t ∧ t.sp = s.sp ∧ t.pc = s.pc) ∧
    (s.present a = false → failsAt res a) := by
  subst hres
  refine ⟨fun h => ?_, fun h => ?_⟩
  · exact ⟨_, memRead_present _ h, reg_setReg_same s r _, keepsBut_setReg s r _, rfl, rfl⟩
  · rw [memRead_absent _ h]
    exact failsAt_raise a s

/-- What a one-byte store does (R102, R104, R107, R111). -/
theorem store_spec (s : State) (a : Word) (v : Byte) {res : Result} (hres : res = memWrite s a v .next) :
    (s.mem.wf = true → s.present a = true → ∃ t, res = .next t ∧ t.byteAt a = v ∧
      keepsBut [] [] [a] s t ∧ t.sp = s.sp ∧ t.pc = s.pc) ∧
    (s.present a = false → failsAt res a) := by
  subst hres
  refine ⟨fun hwf h => ?_, fun h => ?_⟩
  · exact ⟨_, memWrite_present v _ h, byteAt_setByte_same s hwf a v, keepsBut_setByte s hwf a v, rfl, rfl⟩
  · rw [memWrite_absent v _ h]
    exact failsAt_raise a s

section
variable {s : State} {a : Word}

theorem loadHLDirect_present (h : s.present a = true) (h' : s.present (a + 1#16) = true) :
    loadHLDirect a s = .next ((s.setReg .l (s.byteAt a)).setReg .h (s.byteAt (a + 1#16))) := by
  rw [loadHLDirect, memRead_present _ h, memRead_present (s := s.setReg .l (s.byteAt a)) _ h']
  rfl

theorem failsAt_loadHLDirect_low (h : s.present a = false) : failsAt (loadHLDirect a s) a := by
  rw [loadHLDirect, memRead_absent _ h]
  exact failsAt_settlePartial (failsAt_raise a s)

theorem failsAt_loadHLDirect_high (h : s.present a = true) (h' : s.present (a + 1#16) = false) :
    failsAt (loadHLDirect a s) (a + 1#16) := by
  rw [loadHLDirect, memRead_present _ h, memRead_absent (s := s.setReg .l (s.byteAt a)) _ h']
  exact failsAt_settlePartial (failsAt_raise _ _)

theorem storeHLDirect_present (h : s.present a = true) (h' : s.present (a + 1#16) = true) :
    storeHLDirect a s = .next ((s.setByte a (s.reg .l)).setByte (a + 1#16) (s.reg .h)) := by
  rw [storeHLDirect, memWrite_present _ _ h, memWrite_present (s := s.setByte a _) _ _ h']
  rfl

theorem failsAt_storeHLDirect_low (h : s.present a = false) : failsAt (storeHLDirect a s) a := by
  rw [storeHLDirect, memWrite_absent _ _ h]
  exact failsAt_settlePartial (failsAt_raise a s)

theorem failsAt_storeHLDirect_high (h : s.present a = true) (h' : s.present (a + 1#16) = false) :
    failsAt (storeHLDirect a s) (a + 1#16) := by
  rw [storeHLDirect, memWrite_present _ _ h, memWrite_absent (s := s.setByte a _) _ _ h']
  exact failsAt_settlePartial (failsAt_raise _ _)

end

/-! ## Statements -/

/-- Settles O23: both forms are one store at H:L. -/
theorem movAndMviToMemory : Obligations.MovAndMviToMemory := by
  refine ⟨encode_movMemReg, fun _ => rfl, ?_⟩
  rintro i v s (⟨src, rfl, rfl⟩ | rfl)
  · exact store_spec s s.hl _ (exec_movMemReg s src)
  · exact store_spec s s.hl v (exec_mvi_m s v)

/-- Settles O28: L is loaded first; the address of H does not depend on it. -/
theorem lhldLoadsLowByteFirst : Obligations.LhldLoadsLowByteFirst := by
  intro a s
  rw [exec_lhld]
  refine ⟨rfl, fun h h' => ?_, failsAt_loadHLDirect_low, failsAt_loadHLDirect_high⟩
  refine ⟨_, loadHLDirect_present h h', rfl, rfl, keepsBut_regs_flags s (fun r hr => ?_) fun _ _ => rfl, rfl, rfl⟩
  simp only [List.mem_cons, List.not_mem_nil, or_false, not_or] at hr
  exact (get_set_other _ _ hr.1).trans (get_set_other _ _ hr.2)

/-- Settles O29: the two addresses differ, so the second store leaves the first. -/
theorem shldStoresLowByteFirst : Obligations.ShldStoresLowByteFirst := by
  intro a s
  rw [exec_shld]
  refine ⟨rfl, fun hwf h h' => ?_, failsAt_storeHLDirect_low, failsAt_storeHLDirect_high⟩
  obtain ⟨hlow, hhigh⟩ := byteAt_setByte_setByte s hwf (add_one_ne a) (s.reg .l) (s.reg .h)
  exact ⟨_, storeHLDirect_present h h', hlow, hhigh, keepsBut_setByte_setByte s hwf _ _ _ _, rfl, rfl⟩

/-- Settles O21: one register update, which is none when the register is the source. -/
theorem movBetweenRegisters : Obligations.MovBetweenRegisters := by
  refine fun dst src s => ⟨encode_movRegReg dst src, _, exec_movRegReg s dst src, reg_setReg_same s dst _,
    keepsBut_setReg s dst _, rfl, rfl, ?_⟩
  rintro rfl
  exact setReg_self s dst

/-- Settles O22: the meaning is one load whose address is taken from the state before the write. -/
theorem movFromMemory : Obligations.MovFromMemory :=
  fun dst s => ⟨encode_movRegMem dst, load_spec s dst s.hl (exec_movRegMem s dst)⟩

/-- Settles O24: one register update. -/
theorem mviToRegister : Obligations.MviToRegister :=
  fun dst d8 s => ⟨encode_mvi_reg dst d8, _, exec_mvi_reg s dst d8, reg_setReg_same s dst d8,
    keepsBut_setReg s dst d8, rfl, rfl⟩

/-- Settles O25: the operand is joined from the two bytes and split again by `setPair`. -/
theorem lxiLoadsPair : Obligations.LxiLoadsPair := by
  refine ⟨fun p hi lo => ?encoding, fun p hi lo s => ?pair, fun d16 s => ?sp⟩
  case encoding => rw [encode_lxi, loByte_joinBytes, hiByte_joinBytes]
  case pair =>
    refine ⟨_, exec_lxi s (.rp p) _, ?_, ?_, keepsBut_setPair s p _, rfl, rfl⟩
    · exact (reg_pairHigh_setPair s p _).trans (hiByte_joinBytes hi lo)
    · exact (reg_pairLow_setPair s p _).trans (loByte_joinBytes hi lo)
  case sp => exact ⟨_, exec_lxi s .sp d16, rfl, keepsBut_sp s d16, rfl⟩

/-- Settles O30: H, L and D, E swap places, and a second swap puts them back. -/
theorem xchgExchangesPairs : Obligations.XchgExchangesPairs := by
  intro s
  refine ⟨rfl, _, (exec_xchg s).trans (exchangeDEHL_eq s), rfl, rfl, rfl, rfl, ?frame, rfl, rfl, ?twice⟩
  case frame =>
    refine keepsBut_regs_flags s (fun r hr => ?_) fun _ _ => rfl
    cases r with
    | d | e | h | l => simp at hr
    | b | c | a => rfl
  case twice => rw [exec_xchg, exchangeDEHL_eq]

end Sys2Proof.Machine

namespace Sys2Proof

/-! The names of these two statements are those of meanings in `Machine`. -/

open Machine

/-- Settles O27: both forms are one store of A. -/
theorem storeAccumulator : Obligations.StoreAccumulator := by
  refine ⟨fun _ => rfl, encode_stax, ?_⟩
  rintro i a s (rfl | ⟨p, rfl, rfl⟩)
  · exact store_spec s a _ (exec_sta s a)
  · exact store_spec s _ _ (exec_stax s p)

/-- Settles O26: both forms are one load into A. -/
theorem loadAccumulator : Obligations.LoadAccumulator := by
  refine ⟨fun _ => rfl, encode_ldax, ?_⟩
  rintro i a s (rfl | ⟨p, rfl, rfl⟩)
  · exact load_spec s .a a (exec_lda s a)
  · exact load_spec s .a _ (exec_ldax s p)

end Sys2Proof
end

section
/-!
Proofs of the statements on the carry, subtract and compare instructions (41_arithmetic.md R142 to R149, 42_logical_rotate.md
R186, R187). SUB, SBB and CMP share `subtractFlags`; INR and DCR share one read, change of flags and write.
-/

namespace Sys2Proof.Machine

/-! ## Encodings -/

theorem encode_adc (o : Operand8) : encode (.adc o) = [BitVec.ofNat 8 (0x88 + o.offset)] := by
  cases o with
  | reg r => cases r <;> rfl
  | m => rfl

theorem encode_sub (o : Operand8) : encode (.sub o) = [BitVec.ofNat 8 (0x90 + o.offset)] := by
  cases o with
  | reg r => cases r <;> rfl
  | m => rfl

theorem encode_sbb (o : Operand8) : encode (.sbb o) = [BitVec.ofNat 8 (0x98 + o.offset)] := by
  cases o with
  | reg r => cases r <;> rfl
  | m => rfl

theorem encode_cmp (o : Operand8) : encode (.cmp o) = [BitVec.ofNat 8 (0xB8 + o.offset)] := by
  cases o with
  | reg r => cases r <;> rfl
  | m => rfl

theorem encode_inr (o : Operand8) : encode (.inr o) = [BitVec.ofNat 8 (0x04 + 8 * o.offset)] := by
  cases o with
  | reg r => cases r <;> rfl
  | m => rfl

theorem encode_dcr (o : Operand8) : encode (.dcr o) = [BitVec.ofNat 8 (0x05 + 8 * o.offset)] := by
  cases o with
  | reg r => cases r <;> rfl
  | m => rfl

/-! ## Bytes and carries -/

theorem sum8_one (v : Byte) : sum8 v 1#8 0 = v + 1#8 := by
  apply BitVec.eq_of_toNat_eq
  rw [toNat_sum8, BitVec.toNat_add]
  rfl

theorem difference8_zero (x v : Byte) : difference8 x v 0 = x - v := by
  have := x.isLt
  have := v.isLt
  apply BitVec.eq_of_toNat_eq
  rw [toNat_difference8 x v 0 (by decide), BitVec.toNat_sub]
  omega

theorem addAC_one (v : Byte) : addAC v 1#8 0 = decide (v.toNat % 16 = 15) := by
  have h : v.toNat % 16 + 1 % 16 + 0 > 0xF ↔ v.toNat % 16 = 15 := by omega
  exact decide_eq_decide.mpr h

theorem subAC_one (v : Byte) : subAC v 1#8 0 = decide (v.toNat % 16 = 0) := by
  have h : v.toNat % 16 < 1 % 16 + 0 ↔ v.toNat % 16 = 0 := by omega
  exact decide_eq_decide.mpr h

theorem carry_le_one (f : Flags) : f.carry ≤ 1 := Bool.toNat_le f.c

/-! ## The subtract path -/

theorem szpOf_subtractFlags (f : Flags) (x v : Byte) (cin : Nat) :
    szpOf (difference8 x v cin) (subtractFlags f x v cin) := szpOf_szp f _ _ _

theorem szpOf_sbbFlags (mode : SbbCarryMode) (f : Flags) (x v : Byte) :
    szpOf (difference8 x v f.carry) (sbbFlags mode f x v) := by
  cases mode with
  | computed => exact szpOf_subtractFlags f x v f.carry
  | cleared => exact szpOf_szp f _ (subAC x v f.carry) false

theorem sbbFlags_ac (mode : SbbCarryMode) (f : Flags) (x v : Byte) : (sbbFlags mode f x v).ac = subAC x v f.carry := by
  cases mode <;> rfl

theorem reg_a_adcTo (v : Byte) (s : State) : (adcTo v s).reg .a = sum8 (s.reg .a) v s.flags.carry :=
  reg_setReg_same s .a _

theorem reg_a_subFrom (v : Byte) (s : State) : (subFrom v s).reg .a = difference8 (s.reg .a) v 0 :=
  reg_setReg_same s .a _

theorem reg_a_sbbFrom (v : Byte) (s : State) : (sbbFrom v s).reg .a = difference8 (s.reg .a) v s.flags.carry :=
  reg_setReg_same s .a _

/-! ## INR and DCR -/

theorem keepsBut_setOperand_flags (s : State) (h : s.mem.wf = true) (o : Operand8) (v : Byte) {f : Flags}
    {fs : List FlagName} (hf : ∀ n, n ∉ fs → f.get n = s.flags.get n) :
    keepsBut (operandRegs o) fs (s.operandAddress o) s (({ s with flags := f } : State).setOperand o v) := by
  cases o with
  | reg r => exact keepsBut_setReg_flags s hf
  | m =>
    obtain ⟨hregs, -, hmem, hcontrol⟩ := keepsBut_setByte s h s.hl v
    exact ⟨hregs, hf, hmem, hcontrol⟩

/-- Writing the result `r` and its flags back to the operand, F.C left. -/
theorem modify_spec {s : State} {o : Operand8} {r : Byte} {f : Flags} {res : Result} (hwf : s.mem.wf = true)
    (hp : s.operandPresent o = true) (hres : res = dst8 o { s with flags := f } r) (hszp : szpOf r f)
    (hf : ∀ n, n ∉ [FlagName.s, .z, .ac, .p] → f.get n = s.flags.get n) :
    ∃ t r', res = .next t ∧ r' = r ∧ (∀ q, o = .reg q → t.reg q = r') ∧ (o = .m → t.byteAt s.hl = r') ∧
      szpOf r' t.flags ∧ t.flags.ac = f.ac ∧
      keepsBut (operandRegs o) [.s, .z, .ac, .p] (s.operandAddress o) s t ∧ t.sp = s.sp ∧ t.pc = s.pc := by
  have hframe := keepsBut_setOperand_flags s hwf o r hf
  have hpu : ({ s with flags := f } : State).operandPresent o = true := by cases o <;> exact hp
  refine ⟨_, r, hres.trans (dst8_present r hpu), rfl, ?_⟩
  cases o with
  | reg q =>
    refine ⟨?_, nofun, hszp, rfl, hframe, rfl, rfl⟩
    rintro _ ⟨⟩
    exact reg_setReg_same _ q r
  | m => exact ⟨nofun, fun _ => byteAt_setByte_same _ hwf s.hl r, hszp, rfl, hframe, rfl, rfl⟩

theorem exec_inr_present {s : State} {o : Operand8} (h : s.operandPresent o = true) :
    exec (.inr o) s =
      dst8 o { s with flags := (s.flags.szp (sum8 (s.operand o) 1#8 0)).withAC (addAC (s.operand o) 1#8 0) }
        (sum8 (s.operand o) 1#8 0) := by
  rw [exec_inr, increment, src8_present _ h]

theorem exec_dcr_present {s : State} {o : Operand8} (h : s.operandPresent o = true) :
    exec (.dcr o) s =
      dst8 o
        { s with flags := (s.flags.szp (difference8 (s.operand o) 1#8 0)).withAC (subAC (s.operand o) 1#8 0) }
        (difference8 (s.operand o) 1#8 0) := by
  rw [exec_dcr, decrement, src8_present _ h]

theorem failsAt_src8_m {s : State} (k : Byte → Result) (h : s.present s.hl = false) : failsAt (src8 .m s k) s.hl := by
  rw [src8_absent (o := .m) k h]
  exact failsAt_raise _ s

/-! ## Statements -/

/-- Settles O32: as ADD, with F.C as the third addend, and 0 left in it. -/
theorem adcAddsCarryAndClearsIt : Obligations.AdcAddsCarryAndClearsIt := by
  refine ⟨encode_adc, fun _ => rfl, fun _ => exec_m_failsAt exec_adc, fun i v s hi => ?_⟩
  refine ⟨adcTo v s, exec_operand_or_immediate exec_adc exec_aci hi, ?sum, ?szp, rfl, rfl,
    keepsBut_setA_flags s _ _, rfl, rfl⟩
  case sum => exact (congrArg _ (reg_a_adcTo v s)).trans (toNat_sum8 _ v _)
  case szp =>
    rw [reg_a_adcTo]
    exact szpOf_szp s.flags _ _ _

/-- Settles O33: the subtract path with no carry in. -/
theorem subKeepsCarryWhenEqual : Obligations.SubKeepsCarryWhenEqual := by
  refine ⟨encode_sub, fun _ => rfl, fun _ => exec_m_failsAt exec_sub, fun i v s hi => ?_⟩
  obtain ⟨hless, hequal, hgreater⟩ := subCarry_cases (s.reg .a) v 0 s.flags.c
  refine ⟨subFrom v s, exec_operand_or_immediate exec_sub exec_sui hi, ?difference, ?szp, rfl, hless, hequal, hgreater,
    keepsBut_setA_flags s _ _, rfl, rfl⟩
  case difference =>
    rw [reg_a_subFrom, toNat_difference8 _ v 0 (by decide)]
    have := (s.reg .a).isLt
    have := v.isLt
    omega
  case szp =>
    rw [reg_a_subFrom]
    exact szpOf_subtractFlags s.flags _ v 0

/-- Settles O34: the subtract path with F.C as the carry in, and F.C cleared after it under `cleared`. -/
theorem sbbFollowsCarryMode : Obligations.SbbFollowsCarryMode := by
  refine ⟨encode_sbb, fun _ => rfl, fun _ => exec_m_failsAt exec_sbb, fun i v s hi => ?_⟩
  have hc : (sbbFrom v s).flags = sbbFlags s.params.sbbCarryMode s.flags (s.reg .a) v := rfl
  refine ⟨sbbFrom v s, exec_operand_or_immediate exec_sbb exec_sbi hi, ?difference, ?szp, ?ac, ?cleared, ?computed,
    keepsBut_setA_flags s _ _, rfl, rfl⟩
  case difference =>
    rw [reg_a_sbbFrom]
    exact toNat_difference8 _ v _ (carry_le_one s.flags)
  case szp =>
    rw [reg_a_sbbFrom, hc]
    exact szpOf_sbbFlags _ s.flags _ v
  case ac =>
    rw [hc]
    exact sbbFlags_ac _ s.flags _ v
  case cleared =>
    intro hm
    rw [hc, hm]
    rfl
  case computed =>
    intro hm
    rw [hc, hm]
    exact subCarry_cases (s.reg .a) v s.flags.carry s.flags.c

/-- Settles O40: the flags of SUB, and no other write. -/
theorem compareWritesFlagsOnly : Obligations.CompareWritesFlagsOnly := by
  refine ⟨encode_cmp, fun _ => rfl, fun _ => exec_m_failsAt exec_cmp, fun i v s hi => ?_⟩
  obtain ⟨hless, hequal, hgreater⟩ := subCarry_cases (s.reg .a) v 0 s.flags.c
  refine ⟨compareWith v s, exec_operand_or_immediate exec_cmp exec_cpi hi, ?szp, rfl, hless, hequal, hgreater,
    keepsBut_regs_flags s (fun _ _ => rfl) fun _ => flag_is_named, rfl, rfl⟩
  case szp =>
    rw [← difference8_zero]
    exact szpOf_subtractFlags s.flags _ v 0

/-- Settles O35: both write the moved byte and four flags to the operand they read. -/
theorem inrAndDcrLeaveCarry : Obligations.InrAndDcrLeaveCarry := by
  refine ⟨fun o => ⟨encode_inr o, encode_dcr o⟩, fun s h => ?fails, fun o s hwf hp => ⟨?inr, ?dcr⟩⟩
  case fails =>
    rw [exec_inr, exec_dcr]
    exact ⟨failsAt_src8_m _ h, failsAt_src8_m _ h⟩
  case inr =>
    rw [← addAC_one, ← sum8_one]
    exact modify_spec hwf hp (exec_inr_present hp) (szpOf_szp_withAC s.flags _ _)
      fun _ => get_szp_withAC_carry s.flags _ _
  case dcr =>
    rw [← subAC_one, ← difference8_zero]
    exact modify_spec hwf hp (exec_dcr_present hp) (szpOf_szp_withAC s.flags _ _)
      fun _ => get_szp_withAC_carry s.flags _ _

end Sys2Proof.Machine
end

section
/-!
Proofs of the statements on DAA (41_arithmetic.md R153), the rotates and CMA, STC and CMC (42_logical_rotate.md R188 to
R194). Each is a fact about the byte written, and the frame of a write of A and the flags.
-/

namespace Sys2Proof.Machine

/-! ## DAA -/

/-- The two parts of the correction do not overlap, so their union is their sum, and its low nibble is the first. -/
theorem toNat_daaCorrection {x : Byte} {f : Flags} {low high : Nat}
    (hlow : low = if 9 < x.toNat % 16 ∨ f.ac = true then 6 else 0)
    (hhigh : high = if 0x99 < x.toNat ∨ f.c = true then 0x60 else 0) :
    (daaCorrection x f).toNat = low + high ∧ (daaCorrection x f).toNat % 16 = low := by
  subst hlow hhigh
  by_cases h : 9 < x.toNat % 16 ∨ f.ac = true <;> by_cases h' : 0x99 < x.toNat ∨ f.c = true <;>
    simp [daaCorrection, h, h']

theorem reg_a_decimalAdjustStandard (s : State) :
    (decimalAdjustStandard s).reg .a = sum8 (s.reg .a) (daaCorrection (s.reg .a) s.flags) 0 := reg_setReg_same s .a _

theorem exec_daa_stub {s : State} (h : s.params.daaMode = .stub) : exec .daa s = .next s := by
  rw [exec_daa, decimalAdjust, h]

theorem exec_daa_standard {s : State} (h : s.params.daaMode = .standard) :
    exec .daa s = .next (decimalAdjustStandard s) := by
  rw [exec_daa, decimalAdjust, h]

/-! ## Rotated bytes -/

theorem getLsbD_bitByte (x : Bool) (n : Nat) : (bitByte x).getLsbD n = (x && decide (n = 0)) := by
  cases x <;> simp [bitByte]

theorem getLsbD_rotatedLeft (x : Byte) (b : Bool) :
    (x <<< 1 ||| bitByte b).getLsbD 0 = b ∧ ∀ n, n < 7 → (x <<< 1 ||| bitByte b).getLsbD (n + 1) = x.getLsbD n := by
  simp only [BitVec.getLsbD_or, BitVec.getLsbD_shiftLeft, getLsbD_bitByte]
  refine ⟨by simp, fun n hn => ?_⟩
  have : n + 1 < 8 := by omega
  simp [this]

theorem getLsbD_rotatedRight (x : Byte) (b : Bool) :
    (x >>> 1 ||| bitByte b <<< 7).getLsbD 7 = b ∧
      ∀ n, n < 7 → (x >>> 1 ||| bitByte b <<< 7).getLsbD n = x.getLsbD (n + 1) := by
  simp only [BitVec.getLsbD_or, BitVec.getLsbD_shiftLeft, BitVec.getLsbD_ushiftRight, getLsbD_bitByte]
  refine ⟨by simp, fun n hn => ?_⟩
  simp [hn, Nat.add_comm 1 n]

theorem keepsBut_setA_withC (s : State) (v : Byte) (x : Bool) :
    keepsBut [.a] [.c] [] s { s.setReg .a v with flags := s.flags.withC x } :=
  keepsBut_setReg_flags s fun _ => get_withC_other s.flags x

/-- R188 to R191: `res` moves each bit of A one place, to the left or to the right, and puts `b` in the free place. -/
def MovesEachBit (s : State) (left b : Bool) (res : Result) : Prop :=
  ∃ t, res = .next t ∧
    (left = true → (t.reg .a).getLsbD 0 = b ∧ t.flags.c = (s.reg .a).getLsbD 7 ∧
      ∀ n, n < 7 → (t.reg .a).getLsbD (n + 1) = (s.reg .a).getLsbD n) ∧
    (left = false → (t.reg .a).getLsbD 7 = b ∧ t.flags.c = (s.reg .a).getLsbD 0 ∧
      ∀ n, n < 7 → (t.reg .a).getLsbD n = (s.reg .a).getLsbD (n + 1)) ∧
    keepsBut [.a] [.c] [] s t ∧ t.sp = s.sp ∧ t.pc = s.pc

theorem movesEachBit_rotatedLeft (s : State) (b : Bool) {res : Result}
    (hres : res = rotated (s.reg .a <<< 1 ||| bitByte b) ((s.reg .a).getLsbD 7) s) : MovesEachBit s true b res := by
  obtain ⟨hfree, hmoved⟩ := getLsbD_rotatedLeft (s.reg .a) b
  exact ⟨_, hres, fun _ => ⟨hfree, rfl, hmoved⟩, nofun, keepsBut_setA_withC s _ _, rfl, rfl⟩

theorem movesEachBit_rotatedRight (s : State) (b : Bool) {res : Result}
    (hres : res = rotated (s.reg .a >>> 1 ||| bitByte b <<< 7) ((s.reg .a).getLsbD 0) s) :
    MovesEachBit s false b res := by
  obtain ⟨hfree, hmoved⟩ := getLsbD_rotatedRight (s.reg .a) b
  exact ⟨_, hres, nofun, fun _ => ⟨hfree, rfl, hmoved⟩, keepsBut_setA_withC s _ _, rfl, rfl⟩

/-! ## Statements -/

/-- Settles O38: the correction is the sum of its two parts, and the low part alone reaches the low nibble. -/
theorem daaAdjustsUnderItsMode : Obligations.DaaAdjustsUnderItsMode := by
  refine ⟨rfl, fun s => exec_daa_stub, fun s low high hm hlow hhigh => ?_⟩
  obtain ⟨hsum, hnibble⟩ := toNat_daaCorrection hlow hhigh
  refine ⟨_, exec_daa_standard hm, ?sum, ?szp, ?ac, Bool.or_comm _ _, keepsBut_setA_flags s _ _, rfl, rfl⟩
  case sum => rw [reg_a_decimalAdjustStandard, toNat_sum8, hsum, Nat.add_zero, Nat.add_assoc]
  case szp =>
    rw [reg_a_decimalAdjustStandard]
    exact szpOf_szp s.flags _ _ _
  case ac =>
    rw [← hnibble]
    rfl

/-- Settles O41: left and right rotates differ in the place each bit moves to, and the forms of each in the bit that fills
the free place. -/
theorem rotatesMoveEachBit : Obligations.RotatesMoveEachBit := by
  refine ⟨rfl, rfl, rfl, rfl, ?_⟩
  rintro s i left b (⟨rfl, rfl, rfl⟩ | ⟨rfl, rfl, rfl⟩ | ⟨rfl, rfl, rfl⟩ | ⟨rfl, rfl, rfl⟩)
  · exact movesEachBit_rotatedLeft s _ (exec_rlc s)
  · exact movesEachBit_rotatedRight s _ (exec_rrc s)
  · exact movesEachBit_rotatedLeft s _ (exec_ral s)
  · exact movesEachBit_rotatedRight s _ (exec_rar s)

/-- Settles O42: CMA writes A alone, STC and CMC write C alone. -/
theorem complementAndCarryInstructions : Obligations.ComplementAndCarryInstructions := by
  refine ⟨rfl, rfl, rfl, fun s => ⟨⟨_, exec_cma s, ?_, keepsBut_setReg s .a _, rfl, rfl⟩,
    ⟨_, exec_stc s, rfl, ?_, rfl, rfl⟩, ⟨_, exec_cmc s, rfl, ?_, rfl, rfl⟩⟩⟩
  · rw [reg_setReg_same, BitVec.toNat_not]
  all_goals exact keepsBut_regs_flags s (fun _ _ => rfl) fun _ => get_withC_other s.flags _

end Sys2Proof.Machine
end

section
/-!
Proofs of the statements on the stack (43_stack.md R220 to R225) and on JMP and PCHL. PUSH and POP are described once, for
any word and any pair; the forms differ in the word that a pair names and in what a word read does to the state.
-/

namespace Sys2Proof.Machine

/-! ## Encodings -/

theorem encode_push (p : PairPSW) : encode (.push p) = [BitVec.ofNat 8 (0xC5 + 0x10 * p.code)] := by
  rcases p with (_ | _ | _) | _ <;> rfl

theorem encode_pop (p : PairPSW) : encode (.pop p) = [BitVec.ofNat 8 (0xC1 + 0x10 * p.code)] := by
  rcases p with (_ | _ | _) | _ <;> rfl

/-! ## Pairs -/

section
variable (s : State)

@[simp] theorem hiByte_pair (p : Pair) : hiByte (s.pair p) = s.reg (pairHigh p) := hiByte_joinBytes _ _

@[simp] theorem loByte_pair (p : Pair) : loByte (s.pair p) = s.reg (pairLow p) := loByte_joinBytes _ _

theorem setPair_pair (p : Pair) : s.setPair p (s.pair p) = s := by
  rw [State.setPair, hiByte_pair, loByte_pair, setReg_self, setReg_self]

/-- A pair written with what it names is unchanged, A and the flags too when each flag has its own bit. -/
theorem setPairPSW_pairPSW (p : PairPSW) (h : s.params.pswLayout.wellFormed = true) :
    s.setPairPSW p (s.pairPSW p) = s := by
  cases p with
  | rp p => exact setPair_pair s p
  | psw =>
    simp only [State.setPairPSW, State.pairPSW, hiByte_joinBytes, loByte_joinBytes, setReg_self, setFlags_flagByte h]

/-! ## PUSH -/

theorem byteAt_pushed_high (h : s.mem.wf = true) (w : Word) : (s.pushed w).byteAt (s.sp - 2#16) = hiByte w := by
  rw [byteAt_pushed w h, if_neg (sub_one_ne_sub_two s.sp).symm, if_pos rfl]

theorem byteAt_pushed_low (h : s.mem.wf = true) (w : Word) : (s.pushed w).byteAt (s.sp - 1#16) = loByte w := by
  rw [byteAt_pushed w h, if_pos rfl]

/-! ## POP -/

theorem popInto_present (p : PairPSW) (h : s.present s.sp = true) (h' : s.present (s.sp + 1#16) = true) :
    popInto p s = .next (({ s with sp := s.sp + 2#16 } : State).setPairPSW p
      (joinBytes (s.byteAt s.sp) (s.byteAt (s.sp + 1#16)))) := pop_present _ h h'

/-- What PUSH stored, POP of the same loads. -/
theorem popInto_pushed (p : PairPSW) (hwf : s.mem.wf = true) (w : Word) (h : s.present (s.sp - 2#16) = true)
    (h' : s.present (s.sp - 1#16) = true) :
    popInto p (s.pushed w) = .next (({ s with mem := (s.pushed w).mem } : State).setPairPSW p w) := by
  have h'' : (s.pushed w).present ((s.pushed w).sp + 1#16) = true := by
    rw [pushed_sp, sub_two_add_one]
    exact h'
  rw [popInto_present _ p h h'', pushed_sp, sub_two_add_one, sub_two_add_two, byteAt_pushed_high s hwf,
    byteAt_pushed_low s hwf, joinBytes_hiByte_loByte]
  rfl

end

/-! ## The flag byte under the default layout -/

theorem toNat_flagByte_default (f : Flags) :
    (flagByte PswLayout.default f).toNat =
      f.s.toNat * 128 + f.z.toNat * 64 + f.ac.toNat * 16 + f.p.toNat * 4 + f.c.toNat := by
  obtain ⟨s, z, ac, p, c⟩ := f
  revert s z ac p c
  decide

/-! ## Statements -/

/-- Settles O43: the word of a pair has the high register as its high byte. -/
theorem pushStoresHighByteLower : Obligations.PushStoresHighByteLower := by
  intro p s
  rw [exec_push]
  refine ⟨encode_push (.rp p), fun hwf h h' => ?_, push_absent_high _, push_absent_low _⟩
  exact ⟨_, push_present _ h h', rfl, (byteAt_pushed_high s hwf _).trans (hiByte_pair s p),
    (byteAt_pushed_low s hwf _).trans (loByte_pair s p), keepsBut_pushed s hwf _, rfl⟩

/-- Settles O44: the low byte of the word stored is the flag byte, whose bits `flagByte_getLsbD` gives. -/
theorem pushPswPacksFlags : Obligations.PushPswPacksFlags := by
  refine ⟨rfl, fun s => ?_⟩
  rw [exec_push]
  refine ⟨fun hwf h h' => ?_, push_absent_high _, push_absent_low _⟩
  refine ⟨_, flagByte s.params.pswLayout s.flags, push_present _ h h', rfl,
    (byteAt_pushed_high s hwf _).trans (hiByte_joinBytes _ _),
    (byteAt_pushed_low s hwf _).trans (loByte_joinBytes _ _), fun hl => ?own, fun n hs hz hac hp hc => ?unused,
    fun hl => ?default, keepsBut_pushed s hwf _, rfl⟩
  case own =>
    have hback := setFlags_flagByte hl s.flags
    exact ⟨congrArg Flags.s hback, congrArg Flags.z hback, congrArg Flags.ac hback, congrArg Flags.p hback,
      congrArg Flags.c hback⟩
  case unused => rw [flagByte_getLsbD, if_neg (by simp [hs, hz, hac, hp, hc])]
  case default =>
    rw [hl]
    exact toNat_flagByte_default s.flags

/-- Settles O45: the word read is split by `setPair`. -/
theorem popLoadsHighByteFromLower : Obligations.PopLoadsHighByteFromLower := by
  intro p s
  rw [exec_pop]
  refine ⟨encode_pop (.rp p), fun h h' => ?_, pop_absent_high _, pop_absent_low _⟩
  exact ⟨_, popInto_present s (.rp p) h h', rfl, (reg_pairHigh_setPair _ p _).trans (hiByte_joinBytes _ _),
    (reg_pairLow_setPair _ p _).trans (loByte_joinBytes _ _),
    keepsBut_setPair { s with sp := s.sp + 2#16 } p _, rfl⟩

/-- Settles O46: the word read is split into A and the flag byte. -/
theorem popPswUnpacksFlags : Obligations.PopPswUnpacksFlags := by
  refine ⟨rfl, fun s => ?_⟩
  rw [exec_pop]
  refine ⟨fun h h' => ?_, pop_absent_high _, pop_absent_low _⟩
  have hpop := popInto_present s .psw h h'
  simp only [State.setPairPSW, hiByte_joinBytes, loByte_joinBytes] at hpop
  refine ⟨_, _, hpop, rfl, rfl, reg_setReg_same _ .a _, rfl, rfl, rfl, rfl, rfl, fun hl => ?_,
    keepsBut_setA_flags { s with sp := s.sp + 2#16 } _ _, rfl⟩
  simp only [hl]
  rfl

/-- Settles O47: POP writes back to the pair the word that PUSH took from it. -/
theorem pushThenPopRestores : Obligations.PushThenPopRestores := by
  intro p s t hwf hl hpush
  rw [exec_push, push_eq_next] at hpush
  obtain ⟨h, h', rfl⟩ := hpush
  refine ⟨{ s with mem := (s.pushed (s.pairPSW p)).mem }, ?_, rfl, rfl, rfl, rfl⟩
  rw [exec_pop, popInto_pushed s p hwf _ h h']
  exact congrArg _ (setPairPSW_pairPSW { s with mem := (s.pushed (s.pairPSW p)).mem } p hl)

/-- Settles O48: both bytes are read before either is stored, and both addresses are present by then. -/
theorem xthlExchangesTopOfStack : Obligations.XthlExchangesTopOfStack := by
  refine ⟨rfl, fun s => ?_⟩
  rw [exec_xthl]
  refine ⟨fun hwf h h' => ?_, stackRead_absent_high _, stackRead_absent_low _⟩
  have hexec : exchangeTopHL s = .next (((s.setByte s.sp (s.reg .h)).setByte (s.sp + 1#16) (s.reg .l)).setPair .h
      (joinBytes (s.byteAt s.sp) (s.byteAt (s.sp + 1#16)))) := by
    rw [exchangeTopHL, stackRead_present _ h h', memWrite_present _ _ h,
      memWrite_present (s := s.setByte s.sp _) _ _ h']
  obtain ⟨hhigh, hlow⟩ := byteAt_setByte_setByte s hwf (add_one_ne s.sp) (s.reg .h) (s.reg .l)
  obtain ⟨hregs, -, -, -⟩ := keepsBut_setPair s .h (joinBytes (s.byteAt s.sp) (s.byteAt (s.sp + 1#16)))
  obtain ⟨-, hflags, hmem, hcontrol⟩ :=
    keepsBut_setByte_setByte s hwf s.sp (s.sp + 1#16) (s.reg .h) (s.reg .l)
  exact ⟨_, hexec, (reg_pairHigh_setPair _ .h _).trans (hiByte_joinBytes _ _),
    (reg_pairLow_setPair _ .h _).trans (loByte_joinBytes _ _), hhigh, hlow, ⟨hregs, hflags, hmem, hcontrol⟩, rfl, rfl⟩

/-- Settles O49: one field written each. -/
theorem sphlJmpAndPchlLoad : Obligations.SphlJmpAndPchlLoad :=
  ⟨rfl, rfl, fun _ => rfl, fun s => ⟨_, exec_sphl s, rfl, keepsBut_sp s _, rfl⟩,
    fun s => ⟨_, exec_pchl s, rfl, keepsBut_pc s _, rfl⟩, fun a16 s => ⟨_, exec_jmp s a16, rfl, keepsBut_pc s _, rfl⟩⟩

end Sys2Proof.Machine
end

section
/-!
Proofs of the statements on control transfer (44_control_transfer.md R241 to R246). Calls and returns are described once;
the conditional forms are those or nothing, by their condition.
-/

namespace Sys2Proof.Machine

/-! ## Encodings -/

theorem encode_jcc (cc : Cond) (a16 : Word) :
    encode (.jcc cc a16) = [BitVec.ofNat 8 (0xC2 + 8 * cc.code), loByte a16, hiByte a16] := by
  cases cc <;> rfl

theorem encode_ccc (cc : Cond) (a16 : Word) :
    encode (.ccc cc a16) = [BitVec.ofNat 8 (0xC4 + 8 * cc.code), loByte a16, hiByte a16] := by
  cases cc <;> rfl

theorem encode_rcc (cc : Cond) : encode (.rcc cc) = [BitVec.ofNat 8 (0xC0 + 8 * cc.code)] := by
  cases cc <;> rfl

theorem encode_rst (n : Fin 8) : encode (.rst n) = [BitVec.ofNat 8 (0xC7 + 8 * n.val)] := by
  fin_cases n <;> rfl

section
variable {s : State}

/-! ## Calls -/

theorem callTo_present (a : Word) (h : s.present (s.sp - 2#16) = true) (h' : s.present (s.sp - 1#16) = true) :
    callTo a s = .next { s.pushed s.pc with pc := a } := by
  rw [callTo, push_present _ h h', andThen_next, jumpTo]

theorem callTo_absent_high (a : Word) (h : s.present (s.sp - 2#16) = false) : failsAt (callTo a s) (s.sp - 2#16) :=
  failsAt_andThen _ (push_absent_high _ h)

theorem callTo_absent_low (a : Word) (h : s.present (s.sp - 2#16) = true) (h' : s.present (s.sp - 1#16) = false) :
    failsAt (callTo a s) (s.sp - 1#16) :=
  failsAt_andThen _ (push_absent_low _ h h')

/-- A call that completes (R242). -/
theorem callTo_spec (a : Word) (hwf : s.mem.wf = true) (h : s.present (s.sp - 2#16) = true)
    (h' : s.present (s.sp - 1#16) = true) :
    ∃ t, callTo a s = .next t ∧ t.pc = a ∧ t.sp = s.sp - 2#16 ∧
      t.byteAt (s.sp - 2#16) = hiByte s.pc ∧ t.byteAt (s.sp - 1#16) = loByte s.pc ∧
      keepsBut [] [] [s.sp - 2#16, s.sp - 1#16] s t :=
  ⟨_, callTo_present a h h', rfl, rfl, byteAt_pushed_high s hwf _, byteAt_pushed_low s hwf _, keepsBut_pushed s hwf _⟩

/-! ## Returns -/

/-- A return that completes (R244). -/
theorem returnFrom_spec (h : s.present s.sp = true) (h' : s.present (s.sp + 1#16) = true) :
    ∃ t, returnFrom s = .next t ∧ t.pc = joinBytes (s.byteAt s.sp) (s.byteAt (s.sp + 1#16)) ∧
      t.sp = s.sp + 2#16 ∧ keepsBut [] [] [] s t :=
  ⟨_, pop_present _ h h', rfl, rfl, keepsBut_refl s⟩

/-! ## Conditions -/

section
variable {cc : Cond}

theorem exec_jcc_eq (a16 : Word) :
    exec (.jcc cc a16) s = .next { s with pc := if s.flags.holds cc then a16 else s.pc } := by
  rw [exec_jcc, jumpIf]
  split <;> rfl

theorem exec_ccc_taken (a16 : Word) (h : s.flags.holds cc = true) : exec (.ccc cc a16) s = callTo a16 s := by
  rw [exec_ccc, callIf, if_pos h]

theorem exec_ccc_not_taken (a16 : Word) (h : s.flags.holds cc = false) : exec (.ccc cc a16) s = .next s := by
  rw [exec_ccc, callIf, if_neg (by simp [h])]

theorem exec_rcc_taken (h : s.flags.holds cc = true) : exec (.rcc cc) s = returnFrom s := by
  rw [exec_rcc, returnIf, if_pos h]

theorem exec_rcc_not_taken (h : s.flags.holds cc = false) : exec (.rcc cc) s = .next s := by
  rw [exec_rcc, returnIf, if_neg (by simp [h])]

end

end

/-! ## Statements -/

/-- Settles O50: each condition is read from its flag by `Flags.holds`, and pc is chosen by it. -/
theorem conditionalJump : Obligations.ConditionalJump := by
  refine ⟨encode_jcc, fun cc a16 s taken htaken => ?_⟩
  have hcc : s.flags.holds cc = taken := by
    rcases htaken with h | h | h | h | h | h | h | h
    all_goals
      obtain ⟨rfl, rfl⟩ := h
      rfl
  exact ⟨hcc, _, exec_jcc_eq a16, by rw [hcc], keepsBut_pc s _, rfl⟩

/-- Settles O51: RST is a call of its own target. -/
theorem callAndRestartPushReturnAddress : Obligations.CallAndRestartPushReturnAddress := by
  refine ⟨fun _ => rfl, encode_rst, fun i target s hi => ?_⟩
  have hexec : exec i s = callTo target s := by
    rcases hi with rfl | ⟨n, rfl, hn⟩
    · exact exec_call s target
    · have htarget : BitVec.ofNat 16 (8 * n.val) = target := by
        rw [← hn, BitVec.ofNat_toNat, BitVec.setWidth_eq]
      rw [exec_rst, restart, htarget]
  rw [hexec]
  exact ⟨callTo_spec target, callTo_absent_high target, callTo_absent_low target⟩

/-- Settles O52: a call when the condition holds, else nothing. -/
theorem conditionalCall : Obligations.ConditionalCall := by
  refine fun cc a16 s => ⟨encode_ccc cc a16, exec_ccc_not_taken a16, fun h => ?_, fun h => ?_, fun h => ?_⟩
  all_goals rw [exec_ccc_taken a16 h]
  · exact callTo_spec a16
  · exact callTo_absent_high a16
  · exact callTo_absent_low a16

/-- Settles O53: pc is the word popped. -/
theorem returnPopsProgramCounter : Obligations.ReturnPopsProgramCounter := by
  refine ⟨rfl, fun s => ?_⟩
  rw [exec_ret]
  exact ⟨returnFrom_spec, pop_absent_high _, pop_absent_low _⟩

/-- Settles O54: a return when the condition holds, else nothing. -/
theorem conditionalReturn : Obligations.ConditionalReturn := by
  refine fun cc s => ⟨encode_rcc cc, exec_rcc_not_taken, fun h => ?_, fun h => ?_, fun h => ?_⟩
  all_goals rw [exec_rcc_taken h]
  · exact returnFrom_spec
  · exact pop_absent_high _
  · exact pop_absent_low _

end Sys2Proof.Machine
end

section
/-!
Proofs of the statements on machine control and I/O (45_machine_control.md R262 to R268), on reset (10_state.md R41) and on
the host's interface (70_reset_and_hazards.md R322, R324).
-/

namespace Sys2Proof.Machine

/-! ## The interrupt mask -/

/-- A mask whose hard-wired bits are 0 is left whole by the accessors. -/
theorem and_eq_self_of_and_not {v m : Byte} (h : v &&& ~~~m = 0#8) : v &&& m = v := by
  have hsplit : v = (v &&& m) ||| (v &&& ~~~m) := by
    rw [← BitVec.and_or_distrib_left, BitVec.or_not_self, BitVec.and_allOnes]
  rw [h, BitVec.or_zero] at hsplit
  exact hsplit.symm

section
variable {s : State}

theorem readIm_eq (h : s.im &&& ~~~(imImplemented s.params.imModel) = 0#8) : s.readIm = s.im :=
  and_eq_self_of_and_not h

theorem writeIm_eq {v : Byte} (h : v &&& ~~~(imImplemented s.params.imModel) = 0#8) :
    s.writeIm v = { s with im := v } := by
  rw [State.writeIm, and_eq_self_of_and_not h]

variable (h : s.im &&& ~~~(imImplemented s.params.imModel) = 0#8)
include h

theorem exec_ei_eq : exec .ei s = .next { s with im := s.im ||| 0x08#8 } := by
  have hbit : 0x08#8 &&& ~~~(imImplemented s.params.imModel) = 0#8 := by cases s.params.imModel <;> rfl
  rw [exec_ei, enableInterrupts, readIm_eq h, writeIm_eq]
  rw [BitVec.and_or_distrib_right, h, hbit, BitVec.or_zero]

theorem exec_di_eq : exec .di s = .next { s with im := s.im &&& 0xF7#8 } := by
  rw [exec_di, disableInterrupts, readIm_eq h, writeIm_eq]
  rw [BitVec.and_assoc, BitVec.and_comm 0xF7#8, ← BitVec.and_assoc, h, BitVec.zero_and]

end

theorem exec_sim_literal {s : State} (hm : s.params.imModel = .literal) :
    exec .sim s = .next { s with im := s.reg .a } := by
  simp only [exec_sim, setInterruptMask_eq, hm, simMask, imImplemented]
  rw [show 0xFF#8 = BitVec.allOnes 8 from rfl, BitVec.and_allOnes]

theorem exec_sim_clear {s : State} (hm : s.params.imModel = .standard8085) (ha : (s.reg .a).getLsbD 3 = false) :
    exec .sim s = .next s := by
  rw [exec_sim, setInterruptMask_eq, hm, simMask, if_neg (ne_true_of_eq_false ha)]

/-- Bits 0 to 2 are A's, bit 3 is the old mask's, and the hard-wired bits stay 0. -/
theorem getLsbD_simMask_set {im a : Byte} (h : im &&& ~~~(imImplemented .standard8085) = 0#8)
    (ha : a.getLsbD 3 = true) (n : Nat) :
    (simMask .standard8085 im a).getLsbD n = if n < 3 then a.getLsbD n else im.getLsbD n := by
  have hbit : im.getLsbD n = (im.getLsbD n && (0x0F#8).getLsbD n) :=
    (congrArg (BitVec.getLsbD · n) (and_eq_self_of_and_not h).symm).trans BitVec.getLsbD_and
  by_cases hn : n < 8
  · simp only [simMask, ha, if_true, imImplemented, BitVec.getLsbD_and, BitVec.getLsbD_or]
    rw [hbit]
    interval_cases n <;> simp
  · rw [if_neg (by omega), BitVec.getLsbD_of_ge _ _ (by omega), BitVec.getLsbD_of_ge _ _ (by omega)]

/-! ## Stored bytes -/

/-- A load from outside changes memory alone. -/
theorem storeBytes_eq (s : State) (a : Word) (vs : List Byte) :
    s.storeBytes a vs = { s with mem := (s.storeBytes a vs).mem } := by
  induction vs generalizing s a with
  | nil => rfl
  | cons v vs ih => exact ih (s.setByte a v) (a + 1#16)

theorem byteAt_storeBytes_other {s : State} {a b : Word} {vs : List Byte} (hwf : s.mem.wf = true)
    (hlen : a.toNat + vs.length ≤ 65536) (hb : b.toNat < a.toNat ∨ a.toNat + vs.length ≤ b.toNat) :
    (s.storeBytes a vs).byteAt b = s.byteAt b := by
  induction vs generalizing s a with
  | nil => rfl
  | cons v vs ih =>
    have ha := toNat_word_add_one a
    have := b.isLt
    rw [List.length_cons] at hlen hb
    have hne : b ≠ a := by
      rintro rfl
      omega
    rw [State.storeBytes, ih (setByte_wf s hwf a v) (by omega) (by omega), byteAt_setByte_other s hwf v hne]

theorem bytesAt_storeBytes {s : State} {a : Word} {vs : List Byte} (hwf : s.mem.wf = true)
    (hlen : a.toNat + vs.length ≤ 65536) : (s.storeBytes a vs).bytesAt a vs.length = vs := by
  induction vs generalizing s a with
  | nil => rfl
  | cons v vs ih =>
    have ha := toNat_word_add_one a
    have := a.isLt
    rw [List.length_cons] at hlen
    have hwf' := setByte_wf s hwf a v
    have hhead : ((s.setByte a v).storeBytes (a + 1#16) vs).byteAt a = v :=
      (byteAt_storeBytes_other hwf' (by omega) (by omega)).trans (byteAt_setByte_same s hwf a v)
    rw [State.storeBytes, List.length_cons, State.bytesAt, hhead, ih hwf' (by omega)]

/-! ## One round of `run()` -/

section
variable {s : State} {n : Nat} (hp : s.present s.pc = true)
include hp

theorem run_of_halt (hb : s.byteAt s.pc = 0x76#8) : run (n + 1) s = .atHalt s := by
  rw [run, if_neg (by simp [hp]), if_pos hb]

theorem run_of_next {t : State} (hb : s.byteAt s.pc ≠ 0x76#8) (hs : step s = .next t) : run (n + 1) s = run n t := by
  rw [run, if_neg (by simp [hp]), if_neg hb, hs]

theorem run_of_fault {f : Fault} (hb : s.byteAt s.pc ≠ 0x76#8) (hs : step s = .fault f) :
    run (n + 1) s = .failed f := by
  rw [run, if_neg (by simp [hp]), if_neg hb, hs]

end

/-! ## Statements -/

/-- Settles O57: with the hard-wired bits 0 the accessors of `im` are plain, and `simMask` is looked at bit by bit. -/
theorem interruptMaskInstructions : Obligations.InterruptMaskInstructions := by
  refine ⟨rfl, rfl, rfl, rfl, fun s h => ⟨exec_ei_eq h, exec_di_eq h, exec_sim_literal, exec_sim_clear,
    fun hm ha => ?set, ?rim⟩⟩
  case set =>
    rw [hm] at h
    refine ⟨_, by rw [exec_sim, setInterruptMask_eq, hm], rfl, fun n hn => ?_, fun n hn => ?_⟩
    · exact (getLsbD_simMask_set h ha n).trans (if_pos hn)
    · exact (getLsbD_simMask_set h ha n).trans (if_neg (Nat.not_lt.mpr hn))
  case rim =>
    exact ⟨_, exec_rim s, (reg_setReg_same s .a _).trans (readIm_eq h), keepsBut_setReg s .a _, rfl, rfl⟩

/-- Settles O59: each byte is stored once, and `setMemory` stores none past MEM_SIZE, so that no address wraps. -/
theorem setMemoryLoadsBytes : Obligations.SetMemoryLoadsBytes := by
  refine fun a bytes s hwf hsize => ⟨fun hfits => ?_, fun hover => if_neg (Nat.not_le.mpr hover)⟩
  have hlen : a.toNat + bytes.length ≤ 65536 := hfits.trans hsize
  refine ⟨s.storeBytes a bytes, if_pos hfits, bytesAt_storeBytes hwf hlen,
    fun b hb => byteAt_storeBytes_other hwf hlen hb, ?_⟩
  rw [storeBytes_eq]
  exact ⟨fun _ _ => rfl, rfl, ⟨rfl, rfl, rfl, rfl, rfl⟩, rfl, rfl⟩

/-- Settles O15: `State.reset` is a literal, and an empty memory reads 00. -/
theorem resetLeavesTheDefaultState : Obligations.ResetLeavesTheDefaultState := by
  refine ⟨fun r => ?_, fun f => ?_, rfl, rfl, rfl, rfl, rfl, fun _ => rfl⟩
  · cases r <;> rfl
  · cases f <;> rfl

/-- Settles O56: both meanings are one `emit`. -/
theorem hltAndOutEmitOneEvent : Obligations.HltAndOutEmitOneEvent :=
  ⟨rfl, fun _ => rfl, fun s => ⟨exec_hlt s, fun d8 => exec_outPort s d8⟩⟩

/-- Settles O58: the draw is one count higher and one write of A. -/
theorem inDrawsAFreeByte : Obligations.InDrawsAFreeByte := by
  intro d8 s
  have hframe := keepsBut_setReg { s with draws := s.draws + 1 } .a (Config.ioIn s.draws d8)
  obtain ⟨hregs, -, hmem, -⟩ := hframe
  exact ⟨rfl, _, exec_inPort s d8, reg_setReg_same _ .a _, rfl, hregs, rfl, hmem, rfl, rfl, rfl, rfl, rfl, rfl⟩

/-- Settles O60: `run` makes its two tests in this order, then steps. -/
theorem runTestsBeforeEachStep : Obligations.RunTestsBeforeEachStep := by
  refine fun n s => ⟨fun hp => ?absent, fun hp hb => ?halt, fun _ hp => run_of_next hp, fun f hp hb hs => ?failed⟩
  case absent =>
    rw [run, if_pos hp]
    exact ⟨rfl, rfl⟩
  case halt =>
    rw [run_of_halt hp hb]
    exact ⟨rfl, fun hf => by simp [RunEnd.verdict, hf], fun hf => by simp [RunEnd.verdict, hf]⟩
  case failed =>
    rw [run_of_fault hp hb hs]
    exact ⟨rfl, rfl⟩

end Sys2Proof.Machine
end
